-- ==== Sys2Proof/Word.lean ====
section
/-! DEFINITION. The two word types of the machine: the byte every register, operand and memory cell
holds (R20, R50), and the 16-bit word of addresses and of the program counter (R24). -/

namespace Sys2Proof

/-- The 8-bit value of a register, an operand or a memory cell; bit 0 is the least significant (R6, R20). -/
abbrev Byte := BitVec 8

/-- A 16-bit address, or the program counter (R24, R50). -/
abbrev Word := BitVec 16

end Sys2Proof
end

