-- ==== Sys2Proof/Machine/Layout.lean ====
section
/-! DEFINITION. Byte order, page addresses, sign extension, and the addresses the processor fixes. -/

namespace Sys2Proof.Machine

/-- `hi:lo`, that is `(hi << 8) | lo` (R8, R9). -/
def hiLo (hi lo : Byte) : Word := hi.setWidth 16 <<< 8 ||| lo.setWidth 16

/-- The high byte of a word, `v[15:8]` (R6). -/
def hiByte (w : Word) : Byte := (w >>> 8).setWidth 8

/-- The low byte of a word, `v[7:0]` (R6). -/
def loByte (w : Word) : Byte := w.setWidth 8

/-- The two bytes of an address in memory and in an instruction, low byte at the lower address (R54, R81). -/
def wordBytes (w : Word) : List Byte := [loByte w, hiByte w]

/-- `zext_16(b)` (R9). -/
def zext (b : Byte) : Word := b.setWidth 16

/-- `sext_16(b)` (R9, R88). -/
def sext (b : Byte) : Word := b.signExtend 16

/-- The zero-page address `0x00:b` (R51, R86). -/
def zeroPage (b : Byte) : Word := hiLo 0x00#8 b

/-- `STACK_PAGE`, the high byte of a stack address (R4, R23). -/
def stackPage : Byte := 0x01#8

/-- The stack address `STACK_PAGE:b` (R52, R62, R63). -/
def stackAddr (b : Byte) : Word := hiLo stackPage b

/-- Where the NMI vector stands (R53). -/
def nmiVector : Word := 0xFFFA#16

/-- Where the reset vector stands (R53). -/
def resetVector : Word := 0xFFFC#16

/-- Where the vector IRQ and BRK share stands (R53). -/
def irqVector : Word := 0xFFFE#16

end Sys2Proof.Machine
end

