-- ==== Sys2Proof/Config.lean ====
section
/-! DEFINITION. What an implementation or a platform fixes (R4), and the free values the spec leaves
open. The parameters are a record of plain data that State holds (log 6), so a statement about every
state is a statement about every choice of them. -/

namespace Sys2Proof

/-- What stands at an address of the platform's map (R57, R58, D12). -/
inductive RegionKind where
  | ram
  | rom
  | device (id : Nat)
  | unmapped
  deriving DecidableEq, Repr

/-- `size` addresses from `base` up, modulo 2^16, of one kind. -/
structure Region where
  base : Word
  size : Nat
  kind : RegionKind
  deriving DecidableEq, Repr

/-- How N, V and Z are set by ADC and SBC in decimal mode (R142, R144, D10). -/
inductive DecimalFlags where
  | draw
  | nmos
  deriving DecidableEq, Repr

/-- What ADC and SBC do in decimal mode with a nibble above 9 (R142, R144, D10). -/
inductive InvalidBcd where
  | refuse
  | nmos
  deriving DecidableEq, Repr

/-- Whether an access to an unmapped address runs with a free value or leaves the step stuck (R59, U7,
U8). A write to ROM, for which U8 offers both too, has no effect under either setting (DESIGN CHOICE,
log 7). -/
inductive UnmappedAccess where
  | anyValue
  | stuck
  deriving DecidableEq, Repr

/-- The parameters of R4 that have more than one value. `memMap` is searched from its head, and an
address no region holds is RAM: the empty map is R4's default, all RAM (DESIGN CHOICE, log 11). -/
structure Params where
  admitTierG : Bool
  hasRor : Bool
  jmpIndirectPageWrap : Bool
  decimalFlags : DecimalFlags
  decimalInvalidBcd : InvalidBcd
  unmappedAccess : UnmappedAccess
  dummyAccesses : Bool
  memMap : List Region
  deriving DecidableEq, Repr

namespace Config

/-- The defaults of R4, and of U7 for unmapped accesses. -/
def defaults : Params where
  admitTierG := true
  hasRor := true
  jmpIndirectPageWrap := true
  decimalFlags := .draw
  decimalInvalidBcd := .refuse
  unmappedAccess := .anyValue
  dummyAccesses := false
  memMap := []

/-- The byte of the k-th draw: what an unmapped or a device address delivers to a read (R57, log 10). -/
opaque freeByte : Nat → Byte

/-- The flag of the k-th draw: N, V or Z after a decimal ADC or SBC (R142, R144, log 9). -/
opaque freeFlag : Nat → Bool

end Config

end Sys2Proof
end

