-- ==== Sys2Proof/Machine/State.lean ====
section
/-! DEFINITION. The state of the machine as plain data (R20 to R41), the reasons a step can stop,
and the machine right after reset. -/

namespace Sys2Proof.Machine

/-- The processor status register P: six stored flags. B and bit 5 of its byte image have no
storage (R27, R37). -/
structure Flags where
  n : Bool
  v : Bool
  d : Bool
  i : Bool
  z : Bool
  c : Bool
  deriving DecidableEq, Repr

/-- One memory access, as the step's history records it (R57, R58, R72). -/
inductive BusEvent where
  | read (addr : Word) (value : Byte)
  | write (addr : Word) (value : Byte)
  deriving DecidableEq, Repr

/-- A change of an input of the processor: the new level, `true` for asserted (R313, R314, R315). -/
inductive PinEvent where
  | irq (asserted : Bool)
  | nmi (asserted : Bool)
  | reset (asserted : Bool)
  deriving DecidableEq, Repr

/-- What the environment does at one instruction boundary: the pin changes the processor sees there,
in order, and whether an asserted and enabled IRQ is taken there (R316 "MAY", D15, D23; log 14). -/
structure Boundary where
  events : List PinEvent
  takeIrq : Bool
  deriving DecidableEq, Repr

/-- Memory: the bytes that differ from what an unlisted address reads as, by rising address (R38, R50). -/
abbrev Memory := List Host.Cell

/-- The state of the machine. -/
@[ext]
structure State where
  /-- Accumulator (R21). -/
  a : Byte
  /-- Index register X (R22). -/
  x : Byte
  /-- Index register Y (R22). -/
  y : Byte
  /-- Stack pointer S (R23). -/
  sp : Byte
  /-- Program counter: between steps, the address of the next opcode byte (R24). -/
  pc : Word
  /-- Processor status register (R27). -/
  p : Flags
  /-- The platform's memory (R38). -/
  mem : Memory
  /-- The NMI edge latch (R39, R314). -/
  nmiPending : Bool
  /-- The IRQ input is asserted (R313). -/
  irqLine : Bool
  /-- The NMI input is asserted (R314). -/
  nmiLine : Bool
  /-- The RESET input is asserted (R315). -/
  resetLine : Bool
  /-- The RESET input was released and its sequence is still to run (R315; the model's own latch, log 17). -/
  resetPending : Bool
  /-- What the environment does at the coming boundaries, next one first (D15; the model's own field, log 14). -/
  schedule : List Boundary
  /-- The accesses of the latest step, in cycle order (R72, log 13). -/
  bus : List BusEvent
  /-- How many free values have been drawn (the model's own field, log 9, log 10). -/
  draws : Nat
  /-- The parameters of R4 (log 6). -/
  params : Params
  deriving DecidableEq, Repr

/-- The hardware has no fault (R310). -/
inductive Fault where
  /-- Raised by `step` alone, and only when `params.unmappedAccess` is `stuck`: the step would access
  the unmapped address `addr`, and has no effect (R59, U7, U8). Safe: the hardware goes on. -/
  | stuck (addr : Word)
  deriving DecidableEq, Repr

/-- What the model declines to predict. -/
inductive Refusal where
  /-- Raised by an arm of `exec` whose instruction has no meaning yet. Safe. -/
  | notModelled (mnemonic : String)
  /-- Raised by `step`: the opcode byte has no row, or its row is not admitted by the parameters
  (R92, R94, R90). Safe: the real part does something undocumented. -/
  | undefinedOpcode (op : Byte)
  /-- Raised by ADC and SBC in decimal mode on an operand that is not BCD, when
  `params.decimalInvalidBcd` is `refuse` (R142, R144). Safe: the real part goes on. -/
  | invalidDecimalOperand (acc operand : Byte)
  deriving DecidableEq, Repr

/-- The outcome of an instruction or a step. -/
abbrev Result := Host.Outcome State Fault Refusal

/-- The machine right after reset (R41, R350, R351): I is 1, no NMI is pending, and PC is the reset
vector of a memory that lists nothing, which is 0000 (log 4). A, X, Y, S, N, V, D, Z and C are
unspecified by the spec; the values here are those of its programs' launch state (DESIGN CHOICE,
log 1, log 2, log 3). The other fields are the model's (log 6, log 25). -/
def State.reset : State where
  a := 0x00#8
  x := 0x00#8
  y := 0x00#8
  sp := 0xFF#8
  pc := 0x0000#16
  p := { n := false, v := false, d := false, i := true, z := false, c := false }
  mem := []
  nmiPending := false
  irqLine := false
  nmiLine := false
  resetLine := false
  resetPending := false
  schedule := []
  bus := []
  draws := 0
  params := Config.defaults

end Sys2Proof.Machine
end

