-- ==== Sys2Proof/Machine/Memory.lean ====
section
/-! DEFINITION. Memory as a list of cells in one canonical form: addresses strictly rising and below
2^16, and no cell that holds what an unlisted address reads as (R38, R50). -/

namespace Sys2Proof.Machine

/-- What an address that no cell lists reads as (DESIGN CHOICE, log 4: the spec leaves RAM at power-on open, U6). -/
def Memory.blank : Byte := 0x00#8

/-- `Mem[a]`. -/
def Memory.read : Memory → Nat → Byte
  | [], _ => Memory.blank
  | cell :: rest, a => if cell.1 = a then cell.2 else Memory.read rest a

/-- The memory with no cell for the address. -/
def Memory.erase : Memory → Nat → Memory
  | [], _ => []
  | cell :: rest, a => if cell.1 = a then Memory.erase rest a else cell :: Memory.erase rest a

/-- The memory with the cell put before the first cell of a greater address. -/
def Memory.insert : Memory → Host.Cell → Memory
  | [], new => [new]
  | cell :: rest, new => if new.1 < cell.1 then new :: cell :: rest else cell :: Memory.insert rest new

/-- `Mem[a] <- v`, in canonical form. -/
def Memory.write (m : Memory) (a : Nat) (v : Byte) : Memory :=
  if v = Memory.blank then m.erase a else (m.erase a).insert (a, v)

/-- Addresses from `low` on, strictly rising, below 2^16, and no cell holding `Memory.blank`. -/
def Memory.wfFrom : Nat → Memory → Bool
  | _, [] => true
  | low, cell :: rest =>
    decide (low ≤ cell.1) && decide (cell.1 < 65536) && decide (cell.2 ≠ Memory.blank) && Memory.wfFrom (cell.1 + 1) rest

/-- The memory is in canonical form. -/
def Memory.wf (m : Memory) : Bool := Memory.wfFrom 0 m

end Sys2Proof.Machine
end

