-- ==== Sys2Proof/Machine/Ops.lean ====
section
/-! DEFINITION. The named operations over memory and registers: bus accesses by region, the stack,
the status register's byte image, the entry of an interrupt and the return from one, reset. -/

namespace Sys2Proof.Machine

/-! ## The platform's map -/

/-- The address lies in the region, counting up from its base modulo 2^16. -/
def regionHolds (r : Region) (a : Word) : Bool := decide ((a - r.base).toNat < r.size)

/-- What stands at the address: the first region that holds it, RAM where none does (R57, log 11). -/
def kindIn : List Region → Word → RegionKind
  | [], _ => .ram
  | r :: rest, a => if regionHolds r a then r.kind else kindIn rest a

/-- What stands at the address on this platform. -/
def State.kindAt (s : State) (a : Word) : RegionKind := kindIn s.params.memMap a

/-- Memory itself answers a read of such an address (R57). -/
def backed : RegionKind → Bool
  | .ram => true
  | .rom => true
  | .device _ => false
  | .unmapped => false

/-- The region is a device's. -/
def isDevice : RegionKind → Bool
  | .device _ => true
  | .ram => false
  | .rom => false
  | .unmapped => false

/-- Discarded reads and doubled writes are performed: by choice, and always when the map has a
device (R60, R61, D13; log 12). -/
def State.performsDummies (s : State) : Bool :=
  s.params.dummyAccesses || s.params.memMap.any (fun r => isDevice r.kind)

/-! ## Bus accesses -/

/-- The byte memory holds at the address, `Mem[a]` (R38). -/
def State.byteAt (s : State) (a : Word) : Byte := s.mem.read a.toNat

/-- The byte a read of the address delivers now: memory's in RAM and ROM, a free value elsewhere (R57, log 10). -/
def State.peek (s : State) (a : Word) : Byte :=
  if backed (s.kindAt a) then s.byteAt a else Config.freeByte s.draws

/-- The state after a read of the address: the access is recorded, and a free value is used up (R57). -/
def State.noteRead (s : State) (a : Word) : State :=
  { s with
    bus := s.bus ++ [.read a (s.peek a)]
    draws := if backed (s.kindAt a) then s.draws else s.draws + 1 }

/-- `MemRead(a, 1)` (R57). -/
def State.memRead (s : State) (a : Word) : Byte × State := (s.peek a, s.noteRead a)

/-- `MemWrite(a, 1, v)`: RAM takes the byte, nothing else does, and the access is recorded (R58). -/
def State.memWrite (s : State) (a : Word) (v : Byte) : State :=
  { s with
    bus := s.bus ++ [.write a v]
    mem := if s.kindAt a = .ram then s.mem.write a.toNat v else s.mem }

/-- A discarded read (R60). -/
def State.dummyRead (s : State) (a : Word) : State :=
  if s.performsDummies then s.noteRead a else s

/-- The redundant write of a read-modify-write instruction (R61). -/
def State.dummyWrite (s : State) (a : Word) (v : Byte) : State :=
  if s.performsDummies then s.memWrite a v else s

/-! ## Registers -/

/-- `PC <- pcn`, for an instruction of `length` bytes (R10, R25, R26). -/
def State.advance (s : State) (length : Nat) : State := { s with pc := s.pc + BitVec.ofNat 16 length }

/-- `SetNZ(v)` (R31). -/
def Flags.setNZ (p : Flags) (v : Byte) : Flags := { p with n := v.getLsbD 7, z := v == 0x00#8 }

/-- `A <- v; SetNZ(v)`. -/
def State.loadA (s : State) (v : Byte) : State := { s with a := v, p := s.p.setNZ v }

/-- `X <- v; SetNZ(v)`. -/
def State.loadX (s : State) (v : Byte) : State := { s with x := v, p := s.p.setNZ v }

/-- `Y <- v; SetNZ(v)`. -/
def State.loadY (s : State) (v : Byte) : State := { s with y := v, p := s.p.setNZ v }

/-! ## The stack -/

/-- `Push(v)` (R62). -/
def State.push (s : State) (v : Byte) : State :=
  { s.memWrite (stackAddr s.sp) v with sp := s.sp - 1 }

/-- `Pull()` (R63). -/
def State.pull (s : State) : Byte × State :=
  let t := { s with sp := s.sp + 1 }
  t.memRead (stackAddr t.sp)

/-! ## The byte image of P -/

/-- `PackP(b)`: N V 1 b D I Z C from bit 7 down (R34). -/
def Flags.pack (p : Flags) (b : Bool) : Byte :=
  BitVec.ofBool p.n ++ BitVec.ofBool p.v ++ 1#1 ++ BitVec.ofBool b ++
    BitVec.ofBool p.d ++ BitVec.ofBool p.i ++ BitVec.ofBool p.z ++ BitVec.ofBool p.c

/-- `UnpackP(v)`: bits 5 and 4 are ignored (R35). -/
def Flags.unpack (v : Byte) : Flags where
  n := v.getLsbD 7
  v := v.getLsbD 6
  d := v.getLsbD 3
  i := v.getLsbD 2
  z := v.getLsbD 1
  c := v.getLsbD 0

/-! ## Taking an exception and returning from one -/

/-- `PC <- MemRead(vec + 1, 1) : MemRead(vec, 1)`, low byte first (R53, R318, R319). -/
def State.jumpThrough (s : State) (vec : Word) : State :=
  let (lo, s) := s.memRead vec
  let (hi, s) := s.memRead (vec + 1)
  { s with pc := hiLo hi lo }

/-- The three pushes of an interrupt entry, PCH, PCL and P as it is before I is set, then I set (R318). -/
def State.entered (s : State) (ret : Word) (b : Bool) : State :=
  let s := s.push (hiByte ret)
  let s := s.push (loByte ret)
  let s := s.push (s.p.pack b)
  { s with p := { s.p with i := true } }

/-- Interrupt entry, common to BRK, IRQ and NMI: the return address and P are saved with break bit
`b`, I is set, and control goes through the vector (R318). -/
def State.enterInterrupt (s : State) (ret : Word) (b : Bool) (vec : Word) : State :=
  (s.entered ret b).jumpThrough vec

/-- `UnpackP(Pull())`, then PC pulled low byte first, with no + 1 (R214, R321). -/
def State.returnFromInterrupt (s : State) : State :=
  let (v, s) := s.pull
  let s := { s with p := Flags.unpack v }
  let (lo, s) := s.pull
  let (hi, s) := s.pull
  { s with pc := hiLo hi lo }

/-- IRQ taken at a boundary, with its two discarded reads at PC (R316, R318, R125). -/
def State.takeIrq (s : State) : State :=
  ((s.dummyRead s.pc).dummyRead s.pc).enterInterrupt s.pc false irqVector

/-- NMI taken at a boundary: the latch is cleared (R314, R316, R318, R125). -/
def State.takeNmi (s : State) : State :=
  let s := (s.dummyRead s.pc).dummyRead s.pc
  { s.enterInterrupt s.pc false nmiVector with nmiPending := false }

/-- The reset sequence: three discarded stack reads lower S by 3, I is set, the NMI latch is
cleared, control goes through the reset vector, and nothing is written (R351). -/
def State.resetSequence (s : State) : State :=
  let s := (s.dummyRead s.pc).dummyRead s.pc
  let s := ((s.dummyRead (stackAddr s.sp)).dummyRead (stackAddr (s.sp - 1))).dummyRead (stackAddr (s.sp - 2))
  let s := { s with sp := s.sp - 3, p := { s.p with i := true }, nmiPending := false, resetPending := false }
  s.jumpThrough resetVector

/-! ## The environment at a boundary -/

/-- A pin changes level: an NMI edge sets the latch (R314), a release of RESET makes its sequence due (R315). -/
def State.applyPin (s : State) : PinEvent → State
  | .irq level => { s with irqLine := level }
  | .nmi level => { s with nmiLine := level, nmiPending := s.nmiPending || (level && !s.nmiLine) }
  | .reset level => { s with resetLine := level, resetPending := !level && (s.resetLine || s.resetPending) }

/-- The boundary of an exhausted schedule: no pin changes, and a pending IRQ is taken (DESIGN CHOICE, log 15). -/
def quietBoundary : Boundary := { events := [], takeIrq := true }

/-- What the environment does at this boundary. -/
def State.boundary (s : State) : Boundary := s.schedule.headD quietBoundary

/-- The state at this boundary: the pin changes are seen, and a new history begins (R72, R316). -/
def State.sample (s : State) : State :=
  let t := { s with schedule := s.schedule.tail, bus := [] }
  s.boundary.events.foldl State.applyPin t

/-! ## Stopping -/

/-- The first access to an unmapped address in a history. A write to ROM is not one (DESIGN CHOICE, log 7). -/
def State.firstUnmapped (s : State) : List BusEvent → Option Word
  | [] => none
  | .read a _ :: rest => if s.kindAt a = .unmapped then some a else s.firstUnmapped rest
  | .write a _ :: rest => if s.kindAt a = .unmapped then some a else s.firstUnmapped rest

/-- Where the step got stuck, on a platform that is asked to reject unmapped accesses (R59, U7, U8; log 7, log 22). -/
def State.stuckAt (s : State) : Option Word :=
  match s.params.unmappedAccess with
  | .anyValue => none
  | .stuck => s.firstUnmapped s.bus

/-- The state was reached with no access that `stuckAt` rejects. -/
def State.finish (s : State) : Result :=
  match s.stuckAt with
  | some a => .fault (.stuck a)
  | none => .next s

/-- The step stops with the refusal, unless an earlier access had it stuck. -/
def State.refuse (s : State) (r : Refusal) : Result :=
  match s.stuckAt with
  | some a => .fault (.stuck a)
  | none => .refused r

end Sys2Proof.Machine
end

