-- ==== Sys2Proof/Machine/Flags.lean ====
section
/-! DEFINITION. Every result and flag computation of the spec: binary and decimal add and subtract,
compare, bit test, shifts and rotates, logic, increments. -/

namespace Sys2Proof.Machine

/-- A result byte and the flags an addition or a subtraction writes. -/
structure Arith where
  value : Byte
  n : Bool
  v : Bool
  z : Bool
  c : Bool
  deriving DecidableEq, Repr

/-- A flag as the number added to a sum. -/
def bit (b : Bool) : Nat := if b then 1 else 0

/-! ## Binary add and subtract -/

/-- Binary ADC, `A + M + C` (R141, R149). -/
def addBinary (a m : Byte) (c : Bool) : Arith :=
  let sum := a.toNat + m.toNat + bit c
  let r := BitVec.ofNat 8 sum
  { value := r
    n := r.getLsbD 7
    v := ((a ^^^ r) &&& (m ^^^ r)).getLsbD 7
    z := r == 0x00#8
    c := decide (256 ≤ sum) }

/-- Binary SBC, `A - M - (1 - C)`; the carry is the inverted borrow (R143, R149). -/
def subBinary (a m : Byte) (c : Bool) : Arith :=
  let d : Int := (a.toNat : Int) - m.toNat - bit (!c)
  let r := BitVec.ofInt 8 d
  { value := r
    n := r.getLsbD 7
    v := ((a ^^^ m) &&& (a ^^^ r)).getLsbD 7
    z := r == 0x00#8
    c := decide (0 ≤ d) }

/-! ## Decimal add and subtract -/

/-- The upper nibble, `v[7:4]`. -/
def tens (v : Byte) : Nat := v.toNat / 16

/-- The lower nibble, `v[3:0]`. -/
def units (v : Byte) : Nat := v.toNat % 16

/-- `valid(v)`: both nibbles are decimal digits (R151). -/
def validBcd (v : Byte) : Bool := decide (tens v ≤ 9) && decide (units v ≤ 9)

/-- `bcd(v)` (R151). -/
def bcd (v : Byte) : Nat := 10 * tens v + units v

/-- `tobcd(n)`, for n from 0 to 99 (R151). -/
def toBcd (n : Nat) : Byte := BitVec.ofNat 8 (16 * (n / 10) + n % 10)

/-- The sum after the low digit's correction and before the high digit's: `s` of the `nmos`
algorithm, from 0 to 1FF hexadecimal (R142). -/
def addNmosSum (a m : Byte) (c : Bool) : Nat :=
  let al := units a + units m + bit c
  let al := if 0x0A ≤ al then (al + 0x06) % 16 + 0x10 else al
  16 * tens a + 16 * tens m + al

/-- Decimal ADC by the `nmos` algorithm, for any bytes (R142). -/
def addNmos (a m : Byte) (c : Bool) : Arith :=
  let s := addNmosSum a m c
  let r := BitVec.ofNat 8 s
  let fixed := if 0xA0 ≤ s then s + 0x60 else s
  { value := BitVec.ofNat 8 fixed
    n := r.getLsbD 7
    v := ((a ^^^ r) &&& (m ^^^ r)).getLsbD 7
    z := (addBinary a m c).z
    c := decide (0x100 ≤ fixed) }

/-- Decimal ADC of valid BCD operands: the decimal sum and its carry; the flags are those of
`addNmos`, which `decimalFlags` admits or replaces (R142). -/
def addDecimal (a m : Byte) (c : Bool) : Arith :=
  if validBcd a && validBcd m then
    let n := bcd a + bcd m + bit c
    { addNmos a m c with value := toBcd (n % 100), c := decide (100 ≤ n) }
  else addNmos a m c

/-- The result byte of decimal SBC by the `nmos` algorithm, for any bytes (R144). -/
def subNmosValue (a m : Byte) (c : Bool) : Byte :=
  let al : Int := (units a : Int) - units m + bit c - 1
  let al : Int := if al < 0 then (al - 0x06) % 16 - 0x10 else al
  let s : Int := 16 * (tens a : Int) - 16 * tens m + al
  let s : Int := if s < 0 then s - 0x60 else s
  BitVec.ofInt 8 s

/-- Decimal SBC: the decimal difference of valid BCD operands, the `nmos` byte of others; the flags
are the binary subtraction's (R144). That C is the binary carry when an operand is not BCD is
DEDUCED (log 8). -/
def subDecimal (a m : Byte) (c : Bool) : Arith :=
  if validBcd a && validBcd m then
    let n : Int := (bcd a : Int) - bcd m - bit (!c)
    { subBinary a m c with value := toBcd (n % 100).toNat, c := decide (0 ≤ n) }
  else { subBinary a m c with value := subNmosValue a m c }

/-! ## Compare and bit test -/

/-- The flags of a compare of a register with M: C is 1 when the register is at least M (R145, R146, R147). -/
def Flags.compare (p : Flags) (r m : Byte) : Flags :=
  { p.setNZ (r - m) with c := decide (m.toNat ≤ r.toNat) }

/-- The flags of BIT: N and V from M, Z from `A & M` (R148). -/
def Flags.bitTest (p : Flags) (a m : Byte) : Flags :=
  { p with n := m.getLsbD 7, v := m.getLsbD 6, z := (a &&& m) == 0x00#8 }

/-! ## Shifts, rotates, increments: the result byte and the flags of an operand -/

/-- The frame of a shift: C from the bit moved out, N and Z from the result (R170, R176). -/
def shifted (r : Byte) (out : Bool) (p : Flags) : Byte × Flags := (r, { p.setNZ r with c := out })

/-- ASL (R171). -/
def asl (v : Byte) (p : Flags) : Byte × Flags := shifted (v <<< 1) (v.getLsbD 7) p

/-- LSR (R172). -/
def lsr (v : Byte) (p : Flags) : Byte × Flags := shifted (v >>> 1) (v.getLsbD 0) p

/-- ROL: the old C enters bit 0 (R173). -/
def rol (v : Byte) (p : Flags) : Byte × Flags :=
  shifted (v <<< 1 ||| BitVec.ofNat 8 (bit p.c)) (v.getLsbD 7) p

/-- ROR: the old C enters bit 7 (R174). -/
def ror (v : Byte) (p : Flags) : Byte × Flags :=
  shifted (v >>> 1 ||| BitVec.ofNat 8 (bit p.c) <<< 7) (v.getLsbD 0) p

/-- INC (R267). -/
def inc (v : Byte) (p : Flags) : Byte × Flags := (v + 1, p.setNZ (v + 1))

/-- DEC (R264). -/
def dec (v : Byte) (p : Flags) : Byte × Flags := (v - 1, p.setNZ (v - 1))

/-! ## What an arithmetic instruction writes -/

/-- A and the flags of a binary addition or subtraction: A, N, V, Z, C; D and I unchanged (R141, R143). -/
def State.writeArith (s : State) (r : Arith) : State :=
  { s with a := r.value, p := { s.p with n := r.n, v := r.v, z := r.z, c := r.c } }

/-- A and C of a decimal one, with N, V and Z three free values under `draw` and the `nmos` ones
under `nmos` (R142, R144, D10; log 9). -/
def State.writeDecimal (s : State) (r : Arith) : State :=
  match s.params.decimalFlags with
  | .nmos => s.writeArith r
  | .draw =>
    let drawn := { r with
      n := Config.freeFlag s.draws
      v := Config.freeFlag (s.draws + 1)
      z := Config.freeFlag (s.draws + 2) }
    { s.writeArith drawn with draws := s.draws + 3 }

/-- The decimal form of ADC or SBC on operand M (R142, R144). -/
def State.decimalArith (f : Byte → Byte → Bool → Arith) (m : Byte) (s : State) : Result :=
  if validBcd s.a && validBcd m then .next (s.writeDecimal (f s.a m s.p.c))
  else match s.params.decimalInvalidBcd with
    | .nmos => .next (s.writeDecimal (f s.a m s.p.c))
    | .refuse => s.refuse (.invalidDecimalOperand s.a m)

/-- ADC on operand M (R141, R142). -/
def State.adc (m : Byte) (s : State) : Result :=
  if s.p.d then s.decimalArith addDecimal m else .next (s.writeArith (addBinary s.a m s.p.c))

/-- SBC on operand M (R143, R144). -/
def State.sbc (m : Byte) (s : State) : Result :=
  if s.p.d then s.decimalArith subDecimal m else .next (s.writeArith (subBinary s.a m s.p.c))

end Sys2Proof.Machine
end

