-- ==== Sys2Proof/Machine/Operands.lean ====
section
/-! DEFINITION. The addressing modes, with their effective addresses and their bus accesses in
cycle order (R110 to R126), and the shapes of instruction the opcode table is made of. -/

namespace Sys2Proof.Machine

/-- A mode with an effective address, and its operand bytes (R114 to R121). -/
inductive Mode where
  | zp (oper : Byte)
  | zpx (oper : Byte)
  | zpy (oper : Byte)
  | abs (oper : Word)
  | abx (oper : Word)
  | aby (oper : Word)
  | izx (oper : Byte)
  | izy (oper : Byte)
  deriving DecidableEq, Repr

/-- The bytes of an instruction in the mode (R82). -/
def Mode.length : Mode → Nat
  | .zp _ => 2
  | .zpx _ => 2
  | .zpy _ => 2
  | .abs _ => 3
  | .abx _ => 3
  | .aby _ => 3
  | .izx _ => 2
  | .izy _ => 2

/-- What the instruction does at the effective address: a read instruction skips the discarded read
of an index addition that stays in its page, a store or read-modify-write never does (R125, R363). -/
inductive Access where
  | read
  | write
  deriving DecidableEq, Repr

/-- What a mode delivers: the effective address, whether the index addition crossed a page, and the
state after the mode's own accesses (R110). -/
structure Resolved where
  ea : Word
  crossed : Bool
  state : State

/-- An indexed address: the base plus the unsigned index modulo 2^16, with the discarded read at the
address whose high byte is not yet corrected (R118, R119, R121, R126). -/
def State.indexed (s : State) (k : Access) (base : Word) (index : Byte) : Resolved :=
  let crossed := decide (256 ≤ (loByte base).toNat + index.toNat)
  { ea := base + zext index
    crossed := crossed
    state :=
      if crossed || k == .write then s.dummyRead (hiLo (hiByte base) (loByte base + index)) else s }

/-- A two-byte pointer in page zero, low byte first, wrapped in page zero (R120, R121). -/
def State.zeroPagePointer (s : State) (p : Byte) : Word × State :=
  let (lo, s) := s.memRead (zeroPage p)
  let (hi, s) := s.memRead (zeroPage (p + 1))
  (hiLo hi lo, s)

/-- The effective address of a mode (R114 to R121). -/
def Mode.resolve (m : Mode) (k : Access) (s : State) : Resolved :=
  match m with
  | .zp oper => { ea := zeroPage oper, crossed := false, state := s }
  | .zpx oper => { ea := zeroPage (oper + s.x), crossed := false, state := s.dummyRead (zeroPage oper) }
  | .zpy oper => { ea := zeroPage (oper + s.y), crossed := false, state := s.dummyRead (zeroPage oper) }
  | .abs oper => { ea := oper, crossed := false, state := s }
  | .abx oper => s.indexed k oper s.x
  | .aby oper => s.indexed k oper s.y
  | .izx oper =>
    let ptr := (s.dummyRead (zeroPage oper)).zeroPagePointer (oper + s.x)
    { ea := ptr.1, crossed := false, state := ptr.2 }
  | .izy oper =>
    let ptr := s.zeroPagePointer oper
    ptr.2.indexed k ptr.1 s.y

/-- The operand of a read instruction: the byte after the opcode, or a byte of memory (R110, R113). -/
inductive Operand where
  | imm (oper : Byte)
  | mem (m : Mode)
  deriving DecidableEq, Repr

/-- The bytes of an instruction with the operand (R82). -/
def Operand.length : Operand → Nat
  | .imm _ => 2
  | .mem m => m.length

/-- `M`, and the state after the operand's accesses (R110). -/
def Operand.fetch (o : Operand) (s : State) : Byte × State :=
  match o with
  | .imm oper => (oper, s)
  | .mem m =>
    let r := m.resolve .read s
    r.state.memRead r.ea

/-! ## The shapes of instruction -/

/-- A read instruction: PC moves on, M is fetched, and the body runs on it (R110). -/
def readInstr (o : Operand) (body : Byte → State → Result) (s : State) : Result :=
  let r := o.fetch (s.advance o.length)
  body r.1 r.2

/-- A store of a register's value, which never reads the effective address (R110, R230). -/
def storeInstr (m : Mode) (v : Byte) (s : State) : Result :=
  let r := m.resolve .write (s.advance m.length)
  .next (r.state.memWrite r.ea v)

/-- A read-modify-write instruction: the byte is read, written back unmodified by the hardware, and
written modified (R110, R170, R175). -/
def modifyInstr (m : Mode) (f : Byte → Flags → Byte × Flags) (s : State) : Result :=
  let r := m.resolve .write (s.advance m.length)
  let v := r.state.peek r.ea
  let t := (r.state.noteRead r.ea).dummyWrite r.ea v
  let out := f v t.p
  .next ({ t with p := out.2 }.memWrite r.ea out.1)

/-- The start of a one-byte instruction: PC moves on and the byte there is read and ignored (R111, R112). -/
def State.implied (s : State) : State :=
  let t := s.advance 1
  t.dummyRead t.pc

/-- A shift of the accumulator (R112, R170). -/
def accumulatorInstr (f : Byte → Flags → Byte × Flags) (s : State) : Result :=
  let t := s.implied
  let out := f t.a t.p
  .next { t with a := out.1, p := out.2 }

/-- A one-byte instruction whose body is a change of the state (R111). -/
def impliedInstr (body : State → State) (s : State) : Result := .next (body s.implied)

/-- `(pcn + sext_16(oper)) mod 2^16`, from the address of the next instruction (R88, R122, R199). -/
def branchTarget (pcn : Word) (oper : Byte) : Word := pcn + sext oper

/-- A branch: PC takes the target when the condition holds, after a discarded read of the next
opcode, and one more at the uncorrected address when the page differs (R122, R124, R190, R199). -/
def branchInstr (cond : Bool) (oper : Byte) (s : State) : Result :=
  let t := s.advance 2
  if cond then
    let target := branchTarget t.pc oper
    let u := t.dummyRead t.pc
    let u := if hiByte target = hiByte t.pc then u else u.dummyRead (hiLo (hiByte t.pc) (loByte target))
    .next { u with pc := target }
  else .next t

end Sys2Proof.Machine
end

