-- ==== Sys2Proof/Machine/Arithmetic.lean ====
section
/-! DEFINITION. The meanings of ADC, SBC, CMP, CPX, CPY, BIT (R140 to R153).
A meaning runs with PC at its opcode (log 26). -/

namespace Sys2Proof.Machine

/-- CMP on operand M: always binary, A unchanged (R145, R152). -/
def State.cmp (m : Byte) (s : State) : Result := .next { s with p := s.p.compare s.a m }

/-- CPX on operand M (R146). -/
def State.cpx (m : Byte) (s : State) : Result := .next { s with p := s.p.compare s.x m }

/-- CPY on operand M (R147). -/
def State.cpy (m : Byte) (s : State) : Result := .next { s with p := s.p.compare s.y m }

/-- BIT on operand M (R148). -/
def State.bit (m : Byte) (s : State) : Result := .next { s with p := s.p.bitTest s.a m }

/-- ADC, immediate, opcode 69 (R141, R113). -/
def execAdcImm (oper : Byte) (s : State) : Host.Outcome State Fault Refusal :=
  readInstr (.imm oper) State.adc s

/-- ADC, zero page, opcode 65 (R141, R114). -/
def execAdcZp (oper : Byte) (s : State) : Host.Outcome State Fault Refusal :=
  readInstr (.mem (.zp oper)) State.adc s

/-- ADC, zero page, X, opcode 75 (R141, R115). -/
def execAdcZpx (oper : Byte) (s : State) : Host.Outcome State Fault Refusal :=
  readInstr (.mem (.zpx oper)) State.adc s

/-- ADC, absolute, opcode 6D (R141, R117). -/
def execAdcAbs (oper : Word) (s : State) : Host.Outcome State Fault Refusal :=
  readInstr (.mem (.abs oper)) State.adc s

/-- ADC, absolute, X, opcode 7D (R141, R118). -/
def execAdcAbx (oper : Word) (s : State) : Host.Outcome State Fault Refusal :=
  readInstr (.mem (.abx oper)) State.adc s

/-- ADC, absolute, Y, opcode 79 (R141, R119). -/
def execAdcAby (oper : Word) (s : State) : Host.Outcome State Fault Refusal :=
  readInstr (.mem (.aby oper)) State.adc s

/-- ADC, (indirect, X), opcode 61 (R141, R120). -/
def execAdcIzx (oper : Byte) (s : State) : Host.Outcome State Fault Refusal :=
  readInstr (.mem (.izx oper)) State.adc s

/-- ADC, (indirect), Y, opcode 71 (R141, R121). -/
def execAdcIzy (oper : Byte) (s : State) : Host.Outcome State Fault Refusal :=
  readInstr (.mem (.izy oper)) State.adc s

/-- SBC, immediate, opcode E9 (R143, R113). -/
def execSbcImm (oper : Byte) (s : State) : Host.Outcome State Fault Refusal :=
  readInstr (.imm oper) State.sbc s

/-- SBC, zero page, opcode E5 (R143, R114). -/
def execSbcZp (oper : Byte) (s : State) : Host.Outcome State Fault Refusal :=
  readInstr (.mem (.zp oper)) State.sbc s

/-- SBC, zero page, X, opcode F5 (R143, R115). -/
def execSbcZpx (oper : Byte) (s : State) : Host.Outcome State Fault Refusal :=
  readInstr (.mem (.zpx oper)) State.sbc s

/-- SBC, absolute, opcode ED (R143, R117). -/
def execSbcAbs (oper : Word) (s : State) : Host.Outcome State Fault Refusal :=
  readInstr (.mem (.abs oper)) State.sbc s

/-- SBC, absolute, X, opcode FD (R143, R118). -/
def execSbcAbx (oper : Word) (s : State) : Host.Outcome State Fault Refusal :=
  readInstr (.mem (.abx oper)) State.sbc s

/-- SBC, absolute, Y, opcode F9 (R143, R119). -/
def execSbcAby (oper : Word) (s : State) : Host.Outcome State Fault Refusal :=
  readInstr (.mem (.aby oper)) State.sbc s

/-- SBC, (indirect, X), opcode E1 (R143, R120). -/
def execSbcIzx (oper : Byte) (s : State) : Host.Outcome State Fault Refusal :=
  readInstr (.mem (.izx oper)) State.sbc s

/-- SBC, (indirect), Y, opcode F1 (R143, R121). -/
def execSbcIzy (oper : Byte) (s : State) : Host.Outcome State Fault Refusal :=
  readInstr (.mem (.izy oper)) State.sbc s

/-- CMP, immediate, opcode C9 (R145, R113). -/
def execCmpImm (oper : Byte) (s : State) : Host.Outcome State Fault Refusal :=
  readInstr (.imm oper) State.cmp s

/-- CMP, zero page, opcode C5 (R145, R114). -/
def execCmpZp (oper : Byte) (s : State) : Host.Outcome State Fault Refusal :=
  readInstr (.mem (.zp oper)) State.cmp s

/-- CMP, zero page, X, opcode D5 (R145, R115). -/
def execCmpZpx (oper : Byte) (s : State) : Host.Outcome State Fault Refusal :=
  readInstr (.mem (.zpx oper)) State.cmp s

/-- CMP, absolute, opcode CD (R145, R117). -/
def execCmpAbs (oper : Word) (s : State) : Host.Outcome State Fault Refusal :=
  readInstr (.mem (.abs oper)) State.cmp s

/-- CMP, absolute, X, opcode DD (R145, R118). -/
def execCmpAbx (oper : Word) (s : State) : Host.Outcome State Fault Refusal :=
  readInstr (.mem (.abx oper)) State.cmp s

/-- CMP, absolute, Y, opcode D9 (R145, R119). -/
def execCmpAby (oper : Word) (s : State) : Host.Outcome State Fault Refusal :=
  readInstr (.mem (.aby oper)) State.cmp s

/-- CMP, (indirect, X), opcode C1 (R145, R120). -/
def execCmpIzx (oper : Byte) (s : State) : Host.Outcome State Fault Refusal :=
  readInstr (.mem (.izx oper)) State.cmp s

/-- CMP, (indirect), Y, opcode D1 (R145, R121). -/
def execCmpIzy (oper : Byte) (s : State) : Host.Outcome State Fault Refusal :=
  readInstr (.mem (.izy oper)) State.cmp s

/-- CPX, immediate, opcode E0 (R146, R113). -/
def execCpxImm (oper : Byte) (s : State) : Host.Outcome State Fault Refusal :=
  readInstr (.imm oper) State.cpx s

/-- CPX, zero page, opcode E4 (R146, R114). -/
def execCpxZp (oper : Byte) (s : State) : Host.Outcome State Fault Refusal :=
  readInstr (.mem (.zp oper)) State.cpx s

/-- CPX, absolute, opcode EC (R146, R117). -/
def execCpxAbs (oper : Word) (s : State) : Host.Outcome State Fault Refusal :=
  readInstr (.mem (.abs oper)) State.cpx s

/-- CPY, immediate, opcode C0 (R147, R113). -/
def execCpyImm (oper : Byte) (s : State) : Host.Outcome State Fault Refusal :=
  readInstr (.imm oper) State.cpy s

/-- CPY, zero page, opcode C4 (R147, R114). -/
def execCpyZp (oper : Byte) (s : State) : Host.Outcome State Fault Refusal :=
  readInstr (.mem (.zp oper)) State.cpy s

/-- CPY, absolute, opcode CC (R147, R117). -/
def execCpyAbs (oper : Word) (s : State) : Host.Outcome State Fault Refusal :=
  readInstr (.mem (.abs oper)) State.cpy s

/-- BIT, zero page, opcode 24 (R148, R114). -/
def execBitZp (oper : Byte) (s : State) : Host.Outcome State Fault Refusal :=
  readInstr (.mem (.zp oper)) State.bit s

/-- BIT, absolute, opcode 2C (R148, R117). -/
def execBitAbs (oper : Word) (s : State) : Host.Outcome State Fault Refusal :=
  readInstr (.mem (.abs oper)) State.bit s

end Sys2Proof.Machine
end

