-- ==== Sys2Proof/Machine/Branch.lean ====
section
/-! DEFINITION. The meanings of the eight conditional branches (R190 to R201).
A meaning runs with PC at its opcode (log 26). -/

namespace Sys2Proof.Machine

/-- BCC, opcode 90 (R191, R122). -/
def execBcc (oper : Byte) (s : State) : Host.Outcome State Fault Refusal :=
  branchInstr (!s.p.c) oper s

/-- BCS, opcode B0 (R192, R122). -/
def execBcs (oper : Byte) (s : State) : Host.Outcome State Fault Refusal :=
  branchInstr s.p.c oper s

/-- BEQ, opcode F0 (R193, R122). -/
def execBeq (oper : Byte) (s : State) : Host.Outcome State Fault Refusal :=
  branchInstr s.p.z oper s

/-- BMI, opcode 30 (R194, R122). -/
def execBmi (oper : Byte) (s : State) : Host.Outcome State Fault Refusal :=
  branchInstr s.p.n oper s

/-- BNE, opcode D0 (R195, R122). -/
def execBne (oper : Byte) (s : State) : Host.Outcome State Fault Refusal :=
  branchInstr (!s.p.z) oper s

/-- BPL, opcode 10 (R196, R122). -/
def execBpl (oper : Byte) (s : State) : Host.Outcome State Fault Refusal :=
  branchInstr (!s.p.n) oper s

/-- BVC, opcode 50 (R197, R122). -/
def execBvc (oper : Byte) (s : State) : Host.Outcome State Fault Refusal :=
  branchInstr (!s.p.v) oper s

/-- BVS, opcode 70 (R198, R122). -/
def execBvs (oper : Byte) (s : State) : Host.Outcome State Fault Refusal :=
  branchInstr s.p.v oper s

end Sys2Proof.Machine
end

