-- ==== Sys2Proof/Machine/Jump.lean ====
section
/-! DEFINITION. The meanings of JMP, JSR, RTS, RTI (R210 to R218).
A meaning runs with PC at its opcode (log 26). -/

namespace Sys2Proof.Machine

/-- JMP, absolute, opcode 4C: PC is loaded from the two operand bytes (R210, R117). -/
def execJmpAbs (oper : Word) (s : State) : Host.Outcome State Fault Refusal :=
  .next { s.advance 3 with pc := oper }

/-- JMP, indirect, opcode 6C: the pointer is read low byte first, and its second byte stays in its
page unless the part is set otherwise (R211, R123). -/
def execJmpInd (oper : Word) (s : State) : Host.Outcome State Fault Refusal :=
  let t := s.advance 3
  let (lo, t) := t.memRead oper
  let second := if t.params.jmpIndirectPageWrap then hiLo (hiByte oper) (loByte oper + 1) else oper + 1
  let (hi, t) := t.memRead second
  .next { t with pc := hiLo hi lo }

/-- JSR, opcode 20: the address of the instruction's last byte is pushed, high byte first, and only
then is that byte, the high half of the target, read (R212, R64; log 18). -/
def execJsr (oper : Word) (s : State) : Host.Outcome State Fault Refusal :=
  let ret := s.pc + 2
  let t := s.advance 3
  let t := t.dummyRead (stackAddr t.sp)
  let t := (t.push (hiByte ret)).push (loByte ret)
  let (hi, t) := t.memRead ret
  .next { t with pc := hiLo hi (loByte oper) }

/-- RTS, opcode 60: PC is pulled low byte first and incremented (R213). -/
def execRts (s : State) : Host.Outcome State Fault Refusal :=
  let t := s.implied
  let t := t.dummyRead (stackAddr t.sp)
  let (lo, t) := t.pull
  let (hi, t) := t.pull
  let t := t.dummyRead (hiLo hi lo)
  .next { t with pc := hiLo hi lo + 1 }

/-- RTI, opcode 40: P is pulled, then PC (R214). -/
def execRti (s : State) : Host.Outcome State Fault Refusal :=
  let t := s.implied
  .next (t.dummyRead (stackAddr t.sp)).returnFromInterrupt

end Sys2Proof.Machine
end

