-- ==== Sys2Proof/Machine/LoadStore.lean ====
section
/-! DEFINITION. The meanings of loads, stores and transfers (R230 to R243).
A meaning runs with PC at its opcode (log 26). -/

namespace Sys2Proof.Machine

/-- LDA on operand M (R231). -/
def State.lda (m : Byte) (s : State) : Result := .next (s.loadA m)

/-- LDX on operand M (R232). -/
def State.ldx (m : Byte) (s : State) : Result := .next (s.loadX m)

/-- LDY on operand M (R233). -/
def State.ldy (m : Byte) (s : State) : Result := .next (s.loadY m)

/-- LDA, immediate, opcode A9 (R231, R113). -/
def execLdaImm (oper : Byte) (s : State) : Host.Outcome State Fault Refusal :=
  readInstr (.imm oper) State.lda s

/-- LDA, zero page, opcode A5 (R231, R114). -/
def execLdaZp (oper : Byte) (s : State) : Host.Outcome State Fault Refusal :=
  readInstr (.mem (.zp oper)) State.lda s

/-- LDA, zero page, X, opcode B5 (R231, R115). -/
def execLdaZpx (oper : Byte) (s : State) : Host.Outcome State Fault Refusal :=
  readInstr (.mem (.zpx oper)) State.lda s

/-- LDA, absolute, opcode AD (R231, R117). -/
def execLdaAbs (oper : Word) (s : State) : Host.Outcome State Fault Refusal :=
  readInstr (.mem (.abs oper)) State.lda s

/-- LDA, absolute, X, opcode BD (R231, R118). -/
def execLdaAbx (oper : Word) (s : State) : Host.Outcome State Fault Refusal :=
  readInstr (.mem (.abx oper)) State.lda s

/-- LDA, absolute, Y, opcode B9 (R231, R119). -/
def execLdaAby (oper : Word) (s : State) : Host.Outcome State Fault Refusal :=
  readInstr (.mem (.aby oper)) State.lda s

/-- LDA, (indirect, X), opcode A1 (R231, R120). -/
def execLdaIzx (oper : Byte) (s : State) : Host.Outcome State Fault Refusal :=
  readInstr (.mem (.izx oper)) State.lda s

/-- LDA, (indirect), Y, opcode B1 (R231, R121). -/
def execLdaIzy (oper : Byte) (s : State) : Host.Outcome State Fault Refusal :=
  readInstr (.mem (.izy oper)) State.lda s

/-- LDX, immediate, opcode A2 (R232, R113). -/
def execLdxImm (oper : Byte) (s : State) : Host.Outcome State Fault Refusal :=
  readInstr (.imm oper) State.ldx s

/-- LDX, zero page, opcode A6 (R232, R114). -/
def execLdxZp (oper : Byte) (s : State) : Host.Outcome State Fault Refusal :=
  readInstr (.mem (.zp oper)) State.ldx s

/-- LDX, zero page, Y, opcode B6 (R232, R116). -/
def execLdxZpy (oper : Byte) (s : State) : Host.Outcome State Fault Refusal :=
  readInstr (.mem (.zpy oper)) State.ldx s

/-- LDX, absolute, opcode AE (R232, R117). -/
def execLdxAbs (oper : Word) (s : State) : Host.Outcome State Fault Refusal :=
  readInstr (.mem (.abs oper)) State.ldx s

/-- LDX, absolute, Y, opcode BE (R232, R119). -/
def execLdxAby (oper : Word) (s : State) : Host.Outcome State Fault Refusal :=
  readInstr (.mem (.aby oper)) State.ldx s

/-- LDY, immediate, opcode A0 (R233, R113). -/
def execLdyImm (oper : Byte) (s : State) : Host.Outcome State Fault Refusal :=
  readInstr (.imm oper) State.ldy s

/-- LDY, zero page, opcode A4 (R233, R114). -/
def execLdyZp (oper : Byte) (s : State) : Host.Outcome State Fault Refusal :=
  readInstr (.mem (.zp oper)) State.ldy s

/-- LDY, zero page, X, opcode B4 (R233, R115). -/
def execLdyZpx (oper : Byte) (s : State) : Host.Outcome State Fault Refusal :=
  readInstr (.mem (.zpx oper)) State.ldy s

/-- LDY, absolute, opcode AC (R233, R117). -/
def execLdyAbs (oper : Word) (s : State) : Host.Outcome State Fault Refusal :=
  readInstr (.mem (.abs oper)) State.ldy s

/-- LDY, absolute, X, opcode BC (R233, R118). -/
def execLdyAbx (oper : Word) (s : State) : Host.Outcome State Fault Refusal :=
  readInstr (.mem (.abx oper)) State.ldy s

/-- STA, zero page, opcode 85 (R234, R114). -/
def execStaZp (oper : Byte) (s : State) : Host.Outcome State Fault Refusal :=
  storeInstr (.zp oper) s.a s

/-- STA, zero page, X, opcode 95 (R234, R115). -/
def execStaZpx (oper : Byte) (s : State) : Host.Outcome State Fault Refusal :=
  storeInstr (.zpx oper) s.a s

/-- STA, absolute, opcode 8D (R234, R117). -/
def execStaAbs (oper : Word) (s : State) : Host.Outcome State Fault Refusal :=
  storeInstr (.abs oper) s.a s

/-- STA, absolute, X, opcode 9D (R234, R118). -/
def execStaAbx (oper : Word) (s : State) : Host.Outcome State Fault Refusal :=
  storeInstr (.abx oper) s.a s

/-- STA, absolute, Y, opcode 99 (R234, R119). -/
def execStaAby (oper : Word) (s : State) : Host.Outcome State Fault Refusal :=
  storeInstr (.aby oper) s.a s

/-- STA, (indirect, X), opcode 81 (R234, R120). -/
def execStaIzx (oper : Byte) (s : State) : Host.Outcome State Fault Refusal :=
  storeInstr (.izx oper) s.a s

/-- STA, (indirect), Y, opcode 91 (R234, R121). -/
def execStaIzy (oper : Byte) (s : State) : Host.Outcome State Fault Refusal :=
  storeInstr (.izy oper) s.a s

/-- STX, zero page, opcode 86 (R235, R114). -/
def execStxZp (oper : Byte) (s : State) : Host.Outcome State Fault Refusal :=
  storeInstr (.zp oper) s.x s

/-- STX, zero page, Y, opcode 96 (R235, R116). -/
def execStxZpy (oper : Byte) (s : State) : Host.Outcome State Fault Refusal :=
  storeInstr (.zpy oper) s.x s

/-- STX, absolute, opcode 8E (R235, R117). -/
def execStxAbs (oper : Word) (s : State) : Host.Outcome State Fault Refusal :=
  storeInstr (.abs oper) s.x s

/-- STY, zero page, opcode 84 (R236, R114). -/
def execStyZp (oper : Byte) (s : State) : Host.Outcome State Fault Refusal :=
  storeInstr (.zp oper) s.y s

/-- STY, zero page, X, opcode 94 (R236, R115). -/
def execStyZpx (oper : Byte) (s : State) : Host.Outcome State Fault Refusal :=
  storeInstr (.zpx oper) s.y s

/-- STY, absolute, opcode 8C (R236, R117). -/
def execStyAbs (oper : Word) (s : State) : Host.Outcome State Fault Refusal :=
  storeInstr (.abs oper) s.y s

/-- TAX, opcode AA (R237). -/
def execTax (s : State) : Host.Outcome State Fault Refusal :=
  impliedInstr (fun t => t.loadX t.a) s

/-- TAY, opcode A8 (R238). -/
def execTay (s : State) : Host.Outcome State Fault Refusal :=
  impliedInstr (fun t => t.loadY t.a) s

/-- TSX, opcode BA (R239). -/
def execTsx (s : State) : Host.Outcome State Fault Refusal :=
  impliedInstr (fun t => t.loadX t.sp) s

/-- TXA, opcode 8A (R240). -/
def execTxa (s : State) : Host.Outcome State Fault Refusal :=
  impliedInstr (fun t => t.loadA t.x) s

/-- TXS, opcode 9A (R241). -/
def execTxs (s : State) : Host.Outcome State Fault Refusal :=
  impliedInstr (fun t => { t with sp := t.x }) s

/-- TYA, opcode 98 (R242). -/
def execTya (s : State) : Host.Outcome State Fault Refusal :=
  impliedInstr (fun t => t.loadA t.y) s

end Sys2Proof.Machine
end

