-- ==== Sys2Proof/Machine/Logic.lean ====
section
/-! DEFINITION. The meanings of AND, EOR, ORA, increments and decrements (R260 to R270).
A meaning runs with PC at its opcode (log 26). -/

namespace Sys2Proof.Machine

/-- AND on operand M (R261). -/
def State.and (m : Byte) (s : State) : Result := .next (s.loadA (s.a &&& m))

/-- EOR on operand M (R262). -/
def State.eor (m : Byte) (s : State) : Result := .next (s.loadA (s.a ^^^ m))

/-- ORA on operand M (R263). -/
def State.ora (m : Byte) (s : State) : Result := .next (s.loadA (s.a ||| m))

/-- AND, immediate, opcode 29 (R261, R113). -/
def execAndImm (oper : Byte) (s : State) : Host.Outcome State Fault Refusal :=
  readInstr (.imm oper) State.and s

/-- AND, zero page, opcode 25 (R261, R114). -/
def execAndZp (oper : Byte) (s : State) : Host.Outcome State Fault Refusal :=
  readInstr (.mem (.zp oper)) State.and s

/-- AND, zero page, X, opcode 35 (R261, R115). -/
def execAndZpx (oper : Byte) (s : State) : Host.Outcome State Fault Refusal :=
  readInstr (.mem (.zpx oper)) State.and s

/-- AND, absolute, opcode 2D (R261, R117). -/
def execAndAbs (oper : Word) (s : State) : Host.Outcome State Fault Refusal :=
  readInstr (.mem (.abs oper)) State.and s

/-- AND, absolute, X, opcode 3D (R261, R118). -/
def execAndAbx (oper : Word) (s : State) : Host.Outcome State Fault Refusal :=
  readInstr (.mem (.abx oper)) State.and s

/-- AND, absolute, Y, opcode 39 (R261, R119). -/
def execAndAby (oper : Word) (s : State) : Host.Outcome State Fault Refusal :=
  readInstr (.mem (.aby oper)) State.and s

/-- AND, (indirect, X), opcode 21 (R261, R120). -/
def execAndIzx (oper : Byte) (s : State) : Host.Outcome State Fault Refusal :=
  readInstr (.mem (.izx oper)) State.and s

/-- AND, (indirect), Y, opcode 31 (R261, R121). -/
def execAndIzy (oper : Byte) (s : State) : Host.Outcome State Fault Refusal :=
  readInstr (.mem (.izy oper)) State.and s

/-- EOR, immediate, opcode 49 (R262, R113). -/
def execEorImm (oper : Byte) (s : State) : Host.Outcome State Fault Refusal :=
  readInstr (.imm oper) State.eor s

/-- EOR, zero page, opcode 45 (R262, R114). -/
def execEorZp (oper : Byte) (s : State) : Host.Outcome State Fault Refusal :=
  readInstr (.mem (.zp oper)) State.eor s

/-- EOR, zero page, X, opcode 55 (R262, R115). -/
def execEorZpx (oper : Byte) (s : State) : Host.Outcome State Fault Refusal :=
  readInstr (.mem (.zpx oper)) State.eor s

/-- EOR, absolute, opcode 4D (R262, R117). -/
def execEorAbs (oper : Word) (s : State) : Host.Outcome State Fault Refusal :=
  readInstr (.mem (.abs oper)) State.eor s

/-- EOR, absolute, X, opcode 5D (R262, R118). -/
def execEorAbx (oper : Word) (s : State) : Host.Outcome State Fault Refusal :=
  readInstr (.mem (.abx oper)) State.eor s

/-- EOR, absolute, Y, opcode 59 (R262, R119). -/
def execEorAby (oper : Word) (s : State) : Host.Outcome State Fault Refusal :=
  readInstr (.mem (.aby oper)) State.eor s

/-- EOR, (indirect, X), opcode 41 (R262, R120). -/
def execEorIzx (oper : Byte) (s : State) : Host.Outcome State Fault Refusal :=
  readInstr (.mem (.izx oper)) State.eor s

/-- EOR, (indirect), Y, opcode 51 (R262, R121). -/
def execEorIzy (oper : Byte) (s : State) : Host.Outcome State Fault Refusal :=
  readInstr (.mem (.izy oper)) State.eor s

/-- ORA, immediate, opcode 09 (R263, R113). -/
def execOraImm (oper : Byte) (s : State) : Host.Outcome State Fault Refusal :=
  readInstr (.imm oper) State.ora s

/-- ORA, zero page, opcode 05 (R263, R114). -/
def execOraZp (oper : Byte) (s : State) : Host.Outcome State Fault Refusal :=
  readInstr (.mem (.zp oper)) State.ora s

/-- ORA, zero page, X, opcode 15 (R263, R115). -/
def execOraZpx (oper : Byte) (s : State) : Host.Outcome State Fault Refusal :=
  readInstr (.mem (.zpx oper)) State.ora s

/-- ORA, absolute, opcode 0D (R263, R117). -/
def execOraAbs (oper : Word) (s : State) : Host.Outcome State Fault Refusal :=
  readInstr (.mem (.abs oper)) State.ora s

/-- ORA, absolute, X, opcode 1D (R263, R118). -/
def execOraAbx (oper : Word) (s : State) : Host.Outcome State Fault Refusal :=
  readInstr (.mem (.abx oper)) State.ora s

/-- ORA, absolute, Y, opcode 19 (R263, R119). -/
def execOraAby (oper : Word) (s : State) : Host.Outcome State Fault Refusal :=
  readInstr (.mem (.aby oper)) State.ora s

/-- ORA, (indirect, X), opcode 01 (R263, R120). -/
def execOraIzx (oper : Byte) (s : State) : Host.Outcome State Fault Refusal :=
  readInstr (.mem (.izx oper)) State.ora s

/-- ORA, (indirect), Y, opcode 11 (R263, R121). -/
def execOraIzy (oper : Byte) (s : State) : Host.Outcome State Fault Refusal :=
  readInstr (.mem (.izy oper)) State.ora s

/-- DEC, zero page, opcode C6 (R264, R114). -/
def execDecZp (oper : Byte) (s : State) : Host.Outcome State Fault Refusal :=
  modifyInstr (.zp oper) dec s

/-- DEC, zero page, X, opcode D6 (R264, R115). -/
def execDecZpx (oper : Byte) (s : State) : Host.Outcome State Fault Refusal :=
  modifyInstr (.zpx oper) dec s

/-- DEC, absolute, opcode CE (R264, R117). -/
def execDecAbs (oper : Word) (s : State) : Host.Outcome State Fault Refusal :=
  modifyInstr (.abs oper) dec s

/-- DEC, absolute, X, opcode DE (R264, R118). -/
def execDecAbx (oper : Word) (s : State) : Host.Outcome State Fault Refusal :=
  modifyInstr (.abx oper) dec s

/-- DEX, opcode CA (R265). -/
def execDex (s : State) : Host.Outcome State Fault Refusal :=
  impliedInstr (fun t => t.loadX (t.x - 1)) s

/-- DEY, opcode 88 (R266). -/
def execDey (s : State) : Host.Outcome State Fault Refusal :=
  impliedInstr (fun t => t.loadY (t.y - 1)) s

/-- INC, zero page, opcode E6 (R267, R114). -/
def execIncZp (oper : Byte) (s : State) : Host.Outcome State Fault Refusal :=
  modifyInstr (.zp oper) inc s

/-- INC, zero page, X, opcode F6 (R267, R115). -/
def execIncZpx (oper : Byte) (s : State) : Host.Outcome State Fault Refusal :=
  modifyInstr (.zpx oper) inc s

/-- INC, absolute, opcode EE (R267, R117). -/
def execIncAbs (oper : Word) (s : State) : Host.Outcome State Fault Refusal :=
  modifyInstr (.abs oper) inc s

/-- INC, absolute, X, opcode FE (R267, R118). -/
def execIncAbx (oper : Word) (s : State) : Host.Outcome State Fault Refusal :=
  modifyInstr (.abx oper) inc s

/-- INX, opcode E8 (R268). -/
def execInx (s : State) : Host.Outcome State Fault Refusal :=
  impliedInstr (fun t => t.loadX (t.x + 1)) s

/-- INY, opcode C8 (R269). -/
def execIny (s : State) : Host.Outcome State Fault Refusal :=
  impliedInstr (fun t => t.loadY (t.y + 1)) s

end Sys2Proof.Machine
end

