-- ==== Sys2Proof/Machine/Shift.lean ====
section
/-! DEFINITION. The meanings of ASL, LSR, ROL, ROR (R170 to R178).
A meaning runs with PC at its opcode (log 26). -/

namespace Sys2Proof.Machine

/-- ASL, accumulator, opcode 0A (R171, R112). -/
def execAslAcc (s : State) : Host.Outcome State Fault Refusal :=
  accumulatorInstr asl s

/-- ASL, zero page, opcode 06 (R171, R114). -/
def execAslZp (oper : Byte) (s : State) : Host.Outcome State Fault Refusal :=
  modifyInstr (.zp oper) asl s

/-- ASL, zero page, X, opcode 16 (R171, R115). -/
def execAslZpx (oper : Byte) (s : State) : Host.Outcome State Fault Refusal :=
  modifyInstr (.zpx oper) asl s

/-- ASL, absolute, opcode 0E (R171, R117). -/
def execAslAbs (oper : Word) (s : State) : Host.Outcome State Fault Refusal :=
  modifyInstr (.abs oper) asl s

/-- ASL, absolute, X, opcode 1E (R171, R118). -/
def execAslAbx (oper : Word) (s : State) : Host.Outcome State Fault Refusal :=
  modifyInstr (.abx oper) asl s

/-- LSR, accumulator, opcode 4A (R172, R112). -/
def execLsrAcc (s : State) : Host.Outcome State Fault Refusal :=
  accumulatorInstr lsr s

/-- LSR, zero page, opcode 46 (R172, R114). -/
def execLsrZp (oper : Byte) (s : State) : Host.Outcome State Fault Refusal :=
  modifyInstr (.zp oper) lsr s

/-- LSR, zero page, X, opcode 56 (R172, R115). -/
def execLsrZpx (oper : Byte) (s : State) : Host.Outcome State Fault Refusal :=
  modifyInstr (.zpx oper) lsr s

/-- LSR, absolute, opcode 4E (R172, R117). -/
def execLsrAbs (oper : Word) (s : State) : Host.Outcome State Fault Refusal :=
  modifyInstr (.abs oper) lsr s

/-- LSR, absolute, X, opcode 5E (R172, R118). -/
def execLsrAbx (oper : Word) (s : State) : Host.Outcome State Fault Refusal :=
  modifyInstr (.abx oper) lsr s

/-- ROL, accumulator, opcode 2A (R173, R112). -/
def execRolAcc (s : State) : Host.Outcome State Fault Refusal :=
  accumulatorInstr rol s

/-- ROL, zero page, opcode 26 (R173, R114). -/
def execRolZp (oper : Byte) (s : State) : Host.Outcome State Fault Refusal :=
  modifyInstr (.zp oper) rol s

/-- ROL, zero page, X, opcode 36 (R173, R115). -/
def execRolZpx (oper : Byte) (s : State) : Host.Outcome State Fault Refusal :=
  modifyInstr (.zpx oper) rol s

/-- ROL, absolute, opcode 2E (R173, R117). -/
def execRolAbs (oper : Word) (s : State) : Host.Outcome State Fault Refusal :=
  modifyInstr (.abs oper) rol s

/-- ROL, absolute, X, opcode 3E (R173, R118). -/
def execRolAbx (oper : Word) (s : State) : Host.Outcome State Fault Refusal :=
  modifyInstr (.abx oper) rol s

/-- ROR, accumulator, opcode 6A (R174, R112). -/
def execRorAcc (s : State) : Host.Outcome State Fault Refusal :=
  accumulatorInstr ror s

/-- ROR, zero page, opcode 66 (R174, R114). -/
def execRorZp (oper : Byte) (s : State) : Host.Outcome State Fault Refusal :=
  modifyInstr (.zp oper) ror s

/-- ROR, zero page, X, opcode 76 (R174, R115). -/
def execRorZpx (oper : Byte) (s : State) : Host.Outcome State Fault Refusal :=
  modifyInstr (.zpx oper) ror s

/-- ROR, absolute, opcode 6E (R174, R117). -/
def execRorAbs (oper : Word) (s : State) : Host.Outcome State Fault Refusal :=
  modifyInstr (.abs oper) ror s

/-- ROR, absolute, X, opcode 7E (R174, R118). -/
def execRorAbx (oper : Word) (s : State) : Host.Outcome State Fault Refusal :=
  modifyInstr (.abx oper) ror s

end Sys2Proof.Machine
end

