-- ==== Sys2Proof/Machine/System.lean ====
section
/-! DEFINITION. The meanings of the stack, the flags, NOP, BRK (R280 to R294).
A meaning runs with PC at its opcode (log 26). -/

namespace Sys2Proof.Machine

/-- PHA, opcode 48 (R281). -/
def execPha (s : State) : Host.Outcome State Fault Refusal :=
  impliedInstr (fun t => t.push t.a) s

/-- PHP, opcode 08 (R282). -/
def execPhp (s : State) : Host.Outcome State Fault Refusal :=
  impliedInstr (fun t => t.push (t.p.pack true)) s

/-- PLA, opcode 68: A is pulled, and N and Z follow it (R283). -/
def execPla (s : State) : Host.Outcome State Fault Refusal :=
  let t := s.implied
  let (v, t) := (t.dummyRead (stackAddr t.sp)).pull
  .next (t.loadA v)

/-- PLP, opcode 28: all six flags are pulled (R284). -/
def execPlp (s : State) : Host.Outcome State Fault Refusal :=
  let t := s.implied
  let (v, t) := (t.dummyRead (stackAddr t.sp)).pull
  .next { t with p := Flags.unpack v }

/-- CLC, opcode 18 (R285). -/
def execClc (s : State) : Host.Outcome State Fault Refusal :=
  impliedInstr (fun t => { t with p := { t.p with c := false } }) s

/-- CLD, opcode D8 (R286). -/
def execCld (s : State) : Host.Outcome State Fault Refusal :=
  impliedInstr (fun t => { t with p := { t.p with d := false } }) s

/-- CLI, opcode 58 (R287). -/
def execCli (s : State) : Host.Outcome State Fault Refusal :=
  impliedInstr (fun t => { t with p := { t.p with i := false } }) s

/-- CLV, opcode B8 (R288). -/
def execClv (s : State) : Host.Outcome State Fault Refusal :=
  impliedInstr (fun t => { t with p := { t.p with v := false } }) s

/-- SEC, opcode 38 (R289). -/
def execSec (s : State) : Host.Outcome State Fault Refusal :=
  impliedInstr (fun t => { t with p := { t.p with c := true } }) s

/-- SED, opcode F8 (R290). -/
def execSed (s : State) : Host.Outcome State Fault Refusal :=
  impliedInstr (fun t => { t with p := { t.p with d := true } }) s

/-- SEI, opcode 78 (R291). -/
def execSei (s : State) : Host.Outcome State Fault Refusal :=
  impliedInstr (fun t => { t with p := { t.p with i := true } }) s

/-- NOP, opcode EA (R292). -/
def execNop (s : State) : Host.Outcome State Fault Refusal :=
  impliedInstr (fun t => t) s

/-- BRK, opcode 00: an interrupt entry whatever I holds, with break bit 1 and the address two past
the opcode (R293, R311, R318). -/
def execBrk (s : State) : Host.Outcome State Fault Refusal :=
  .next (s.implied.enterInterrupt (s.pc + 2) true irqVector)

end Sys2Proof.Machine
end

