-- ==== Sys2Proof/Syntax.lean ====
section
/-! DEFINITION. The instructions: one constructor per row of the opcode table (R89, R90), named by
the row's mnemonic and mode, with the operand bytes as its argument; and what the table says of a
row by name: mnemonic, addressing mode, format, tier. -/

namespace Sys2Proof

/-- The thirteen addressing modes (R83). -/
inductive AddrMode where
  /-- Implied. -/
  | imp
  /-- Accumulator. -/
  | acc
  /-- Immediate. -/
  | imm
  /-- Zero page. -/
  | zp
  /-- Zero page, x. -/
  | zpx
  /-- Zero page, y. -/
  | zpy
  /-- Absolute. -/
  | abs
  /-- Absolute, x. -/
  | abx
  /-- Absolute, y. -/
  | aby
  /-- (indirect, X). -/
  | izx
  /-- (indirect), Y. -/
  | izy
  /-- Relative. -/
  | rel
  /-- Indirect. -/
  | ind
  deriving DecidableEq, Repr

/-- The five byte layouts (R82). -/
inductive Format where
  | f1
  | f2i
  | f2z
  | f2r
  | f3
  deriving DecidableEq, Repr

/-- The two tiers of the spec's instructions (R3). -/
inductive Tier where
  | s
  | g
  deriving DecidableEq, Repr

/-- The 56 mnemonics. -/
inductive Mnemonic where
  | adc | asl | bcc | bcs | beq | bit | bmi | bne | bpl | bvc | bvs | cmp | cpx | cpy | jmp | jsr
  | lsr | rol | ror | rti | rts | sbc | and | brk | clc | cld | cli | clv | dec | dex | dey | eor
  | inc | inx | iny | lda | ldx | ldy | nop | ora | pha | php | pla | plp | sec | sed | sei | sta
  | stx | sty | tax | tay | tsx | txa | txs | tya
  deriving DecidableEq, Repr

/-- An instruction. -/
inductive Instr where
  /-- ADC, immediate: opcode 69 (R141, R113). -/
  | adcImm (oper : Byte)
  /-- ADC, zero page: opcode 65 (R141, R114). -/
  | adcZp (oper : Byte)
  /-- ADC, zero page, X: opcode 75 (R141, R115). -/
  | adcZpx (oper : Byte)
  /-- ADC, absolute: opcode 6D (R141, R117). -/
  | adcAbs (oper : Word)
  /-- ADC, absolute, X: opcode 7D (R141, R118). -/
  | adcAbx (oper : Word)
  /-- ADC, absolute, Y: opcode 79 (R141, R119). -/
  | adcAby (oper : Word)
  /-- ADC, (indirect, X): opcode 61 (R141, R120). -/
  | adcIzx (oper : Byte)
  /-- ADC, (indirect), Y: opcode 71 (R141, R121). -/
  | adcIzy (oper : Byte)
  /-- ASL, accumulator: opcode 0A (R171, R112). -/
  | aslAcc
  /-- ASL, zero page: opcode 06 (R171, R114). -/
  | aslZp (oper : Byte)
  /-- ASL, zero page, X: opcode 16 (R171, R115). -/
  | aslZpx (oper : Byte)
  /-- ASL, absolute: opcode 0E (R171, R117). -/
  | aslAbs (oper : Word)
  /-- ASL, absolute, X: opcode 1E (R171, R118). -/
  | aslAbx (oper : Word)
  /-- BCC, relative: opcode 90 (R191, R122). -/
  | bcc (oper : Byte)
  /-- BCS, relative: opcode B0 (R192, R122). -/
  | bcs (oper : Byte)
  /-- BEQ, relative: opcode F0 (R193, R122). -/
  | beq (oper : Byte)
  /-- BIT, zero page: opcode 24 (R148, R114). -/
  | bitZp (oper : Byte)
  /-- BIT, absolute: opcode 2C (R148, R117). -/
  | bitAbs (oper : Word)
  /-- BMI, relative: opcode 30 (R194, R122). -/
  | bmi (oper : Byte)
  /-- BNE, relative: opcode D0 (R195, R122). -/
  | bne (oper : Byte)
  /-- BPL, relative: opcode 10 (R196, R122). -/
  | bpl (oper : Byte)
  /-- BVC, relative: opcode 50 (R197, R122). -/
  | bvc (oper : Byte)
  /-- BVS, relative: opcode 70 (R198, R122). -/
  | bvs (oper : Byte)
  /-- CMP, immediate: opcode C9 (R145, R113). -/
  | cmpImm (oper : Byte)
  /-- CMP, zero page: opcode C5 (R145, R114). -/
  | cmpZp (oper : Byte)
  /-- CMP, zero page, X: opcode D5 (R145, R115). -/
  | cmpZpx (oper : Byte)
  /-- CMP, absolute: opcode CD (R145, R117). -/
  | cmpAbs (oper : Word)
  /-- CMP, absolute, X: opcode DD (R145, R118). -/
  | cmpAbx (oper : Word)
  /-- CMP, absolute, Y: opcode D9 (R145, R119). -/
  | cmpAby (oper : Word)
  /-- CMP, (indirect, X): opcode C1 (R145, R120). -/
  | cmpIzx (oper : Byte)
  /-- CMP, (indirect), Y: opcode D1 (R145, R121). -/
  | cmpIzy (oper : Byte)
  /-- CPX, immediate: opcode E0 (R146, R113). -/
  | cpxImm (oper : Byte)
  /-- CPX, zero page: opcode E4 (R146, R114). -/
  | cpxZp (oper : Byte)
  /-- CPX, absolute: opcode EC (R146, R117). -/
  | cpxAbs (oper : Word)
  /-- CPY, immediate: opcode C0 (R147, R113). -/
  | cpyImm (oper : Byte)
  /-- CPY, zero page: opcode C4 (R147, R114). -/
  | cpyZp (oper : Byte)
  /-- CPY, absolute: opcode CC (R147, R117). -/
  | cpyAbs (oper : Word)
  /-- JMP, absolute: opcode 4C (R210, R117). -/
  | jmpAbs (oper : Word)
  /-- JMP, indirect: opcode 6C (R211, R123). -/
  | jmpInd (oper : Word)
  /-- JSR, absolute: opcode 20 (R212, R117). -/
  | jsr (oper : Word)
  /-- LSR, accumulator: opcode 4A (R172, R112). -/
  | lsrAcc
  /-- LSR, zero page: opcode 46 (R172, R114). -/
  | lsrZp (oper : Byte)
  /-- LSR, zero page, X: opcode 56 (R172, R115). -/
  | lsrZpx (oper : Byte)
  /-- LSR, absolute: opcode 4E (R172, R117). -/
  | lsrAbs (oper : Word)
  /-- LSR, absolute, X: opcode 5E (R172, R118). -/
  | lsrAbx (oper : Word)
  /-- ROL, accumulator: opcode 2A (R173, R112). -/
  | rolAcc
  /-- ROL, zero page: opcode 26 (R173, R114). -/
  | rolZp (oper : Byte)
  /-- ROL, zero page, X: opcode 36 (R173, R115). -/
  | rolZpx (oper : Byte)
  /-- ROL, absolute: opcode 2E (R173, R117). -/
  | rolAbs (oper : Word)
  /-- ROL, absolute, X: opcode 3E (R173, R118). -/
  | rolAbx (oper : Word)
  /-- ROR, accumulator: opcode 6A (R174, R112). -/
  | rorAcc
  /-- ROR, zero page: opcode 66 (R174, R114). -/
  | rorZp (oper : Byte)
  /-- ROR, zero page, X: opcode 76 (R174, R115). -/
  | rorZpx (oper : Byte)
  /-- ROR, absolute: opcode 6E (R174, R117). -/
  | rorAbs (oper : Word)
  /-- ROR, absolute, X: opcode 7E (R174, R118). -/
  | rorAbx (oper : Word)
  /-- RTI, implied: opcode 40 (R214, R111). -/
  | rti
  /-- RTS, implied: opcode 60 (R213, R111). -/
  | rts
  /-- SBC, immediate: opcode E9 (R143, R113). -/
  | sbcImm (oper : Byte)
  /-- SBC, zero page: opcode E5 (R143, R114). -/
  | sbcZp (oper : Byte)
  /-- SBC, zero page, X: opcode F5 (R143, R115). -/
  | sbcZpx (oper : Byte)
  /-- SBC, absolute: opcode ED (R143, R117). -/
  | sbcAbs (oper : Word)
  /-- SBC, absolute, X: opcode FD (R143, R118). -/
  | sbcAbx (oper : Word)
  /-- SBC, absolute, Y: opcode F9 (R143, R119). -/
  | sbcAby (oper : Word)
  /-- SBC, (indirect, X): opcode E1 (R143, R120). -/
  | sbcIzx (oper : Byte)
  /-- SBC, (indirect), Y: opcode F1 (R143, R121). -/
  | sbcIzy (oper : Byte)
  /-- AND, immediate: opcode 29 (R261, R113). -/
  | andImm (oper : Byte)
  /-- AND, zero page: opcode 25 (R261, R114). -/
  | andZp (oper : Byte)
  /-- AND, zero page, X: opcode 35 (R261, R115). -/
  | andZpx (oper : Byte)
  /-- AND, absolute: opcode 2D (R261, R117). -/
  | andAbs (oper : Word)
  /-- AND, absolute, X: opcode 3D (R261, R118). -/
  | andAbx (oper : Word)
  /-- AND, absolute, Y: opcode 39 (R261, R119). -/
  | andAby (oper : Word)
  /-- AND, (indirect, X): opcode 21 (R261, R120). -/
  | andIzx (oper : Byte)
  /-- AND, (indirect), Y: opcode 31 (R261, R121). -/
  | andIzy (oper : Byte)
  /-- BRK, implied: opcode 00 (R293, R111). -/
  | brk
  /-- CLC, implied: opcode 18 (R285, R111). -/
  | clc
  /-- CLD, implied: opcode D8 (R286, R111). -/
  | cld
  /-- CLI, implied: opcode 58 (R287, R111). -/
  | cli
  /-- CLV, implied: opcode B8 (R288, R111). -/
  | clv
  /-- DEC, zero page: opcode C6 (R264, R114). -/
  | decZp (oper : Byte)
  /-- DEC, zero page, X: opcode D6 (R264, R115). -/
  | decZpx (oper : Byte)
  /-- DEC, absolute: opcode CE (R264, R117). -/
  | decAbs (oper : Word)
  /-- DEC, absolute, X: opcode DE (R264, R118). -/
  | decAbx (oper : Word)
  /-- DEX, implied: opcode CA (R265, R111). -/
  | dex
  /-- DEY, implied: opcode 88 (R266, R111). -/
  | dey
  /-- EOR, immediate: opcode 49 (R262, R113). -/
  | eorImm (oper : Byte)
  /-- EOR, zero page: opcode 45 (R262, R114). -/
  | eorZp (oper : Byte)
  /-- EOR, zero page, X: opcode 55 (R262, R115). -/
  | eorZpx (oper : Byte)
  /-- EOR, absolute: opcode 4D (R262, R117). -/
  | eorAbs (oper : Word)
  /-- EOR, absolute, X: opcode 5D (R262, R118). -/
  | eorAbx (oper : Word)
  /-- EOR, absolute, Y: opcode 59 (R262, R119). -/
  | eorAby (oper : Word)
  /-- EOR, (indirect, X): opcode 41 (R262, R120). -/
  | eorIzx (oper : Byte)
  /-- EOR, (indirect), Y: opcode 51 (R262, R121). -/
  | eorIzy (oper : Byte)
  /-- INC, zero page: opcode E6 (R267, R114). -/
  | incZp (oper : Byte)
  /-- INC, zero page, X: opcode F6 (R267, R115). -/
  | incZpx (oper : Byte)
  /-- INC, absolute: opcode EE (R267, R117). -/
  | incAbs (oper : Word)
  /-- INC, absolute, X: opcode FE (R267, R118). -/
  | incAbx (oper : Word)
  /-- INX, implied: opcode E8 (R268, R111). -/
  | inx
  /-- INY, implied: opcode C8 (R269, R111). -/
  | iny
  /-- LDA, immediate: opcode A9 (R231, R113). -/
  | ldaImm (oper : Byte)
  /-- LDA, zero page: opcode A5 (R231, R114). -/
  | ldaZp (oper : Byte)
  /-- LDA, zero page, X: opcode B5 (R231, R115). -/
  | ldaZpx (oper : Byte)
  /-- LDA, absolute: opcode AD (R231, R117). -/
  | ldaAbs (oper : Word)
  /-- LDA, absolute, X: opcode BD (R231, R118). -/
  | ldaAbx (oper : Word)
  /-- LDA, absolute, Y: opcode B9 (R231, R119). -/
  | ldaAby (oper : Word)
  /-- LDA, (indirect, X): opcode A1 (R231, R120). -/
  | ldaIzx (oper : Byte)
  /-- LDA, (indirect), Y: opcode B1 (R231, R121). -/
  | ldaIzy (oper : Byte)
  /-- LDX, immediate: opcode A2 (R232, R113). -/
  | ldxImm (oper : Byte)
  /-- LDX, zero page: opcode A6 (R232, R114). -/
  | ldxZp (oper : Byte)
  /-- LDX, zero page, Y: opcode B6 (R232, R116). -/
  | ldxZpy (oper : Byte)
  /-- LDX, absolute: opcode AE (R232, R117). -/
  | ldxAbs (oper : Word)
  /-- LDX, absolute, Y: opcode BE (R232, R119). -/
  | ldxAby (oper : Word)
  /-- LDY, immediate: opcode A0 (R233, R113). -/
  | ldyImm (oper : Byte)
  /-- LDY, zero page: opcode A4 (R233, R114). -/
  | ldyZp (oper : Byte)
  /-- LDY, zero page, X: opcode B4 (R233, R115). -/
  | ldyZpx (oper : Byte)
  /-- LDY, absolute: opcode AC (R233, R117). -/
  | ldyAbs (oper : Word)
  /-- LDY, absolute, X: opcode BC (R233, R118). -/
  | ldyAbx (oper : Word)
  /-- NOP, implied: opcode EA (R292, R111). -/
  | nop
  /-- ORA, immediate: opcode 09 (R263, R113). -/
  | oraImm (oper : Byte)
  /-- ORA, zero page: opcode 05 (R263, R114). -/
  | oraZp (oper : Byte)
  /-- ORA, zero page, X: opcode 15 (R263, R115). -/
  | oraZpx (oper : Byte)
  /-- ORA, absolute: opcode 0D (R263, R117). -/
  | oraAbs (oper : Word)
  /-- ORA, absolute, X: opcode 1D (R263, R118). -/
  | oraAbx (oper : Word)
  /-- ORA, absolute, Y: opcode 19 (R263, R119). -/
  | oraAby (oper : Word)
  /-- ORA, (indirect, X): opcode 01 (R263, R120). -/
  | oraIzx (oper : Byte)
  /-- ORA, (indirect), Y: opcode 11 (R263, R121). -/
  | oraIzy (oper : Byte)
  /-- PHA, implied: opcode 48 (R281, R111). -/
  | pha
  /-- PHP, implied: opcode 08 (R282, R111). -/
  | php
  /-- PLA, implied: opcode 68 (R283, R111). -/
  | pla
  /-- PLP, implied: opcode 28 (R284, R111). -/
  | plp
  /-- SEC, implied: opcode 38 (R289, R111). -/
  | sec
  /-- SED, implied: opcode F8 (R290, R111). -/
  | sed
  /-- SEI, implied: opcode 78 (R291, R111). -/
  | sei
  /-- STA, zero page: opcode 85 (R234, R114). -/
  | staZp (oper : Byte)
  /-- STA, zero page, X: opcode 95 (R234, R115). -/
  | staZpx (oper : Byte)
  /-- STA, absolute: opcode 8D (R234, R117). -/
  | staAbs (oper : Word)
  /-- STA, absolute, X: opcode 9D (R234, R118). -/
  | staAbx (oper : Word)
  /-- STA, absolute, Y: opcode 99 (R234, R119). -/
  | staAby (oper : Word)
  /-- STA, (indirect, X): opcode 81 (R234, R120). -/
  | staIzx (oper : Byte)
  /-- STA, (indirect), Y: opcode 91 (R234, R121). -/
  | staIzy (oper : Byte)
  /-- STX, zero page: opcode 86 (R235, R114). -/
  | stxZp (oper : Byte)
  /-- STX, zero page, Y: opcode 96 (R235, R116). -/
  | stxZpy (oper : Byte)
  /-- STX, absolute: opcode 8E (R235, R117). -/
  | stxAbs (oper : Word)
  /-- STY, zero page: opcode 84 (R236, R114). -/
  | styZp (oper : Byte)
  /-- STY, zero page, X: opcode 94 (R236, R115). -/
  | styZpx (oper : Byte)
  /-- STY, absolute: opcode 8C (R236, R117). -/
  | styAbs (oper : Word)
  /-- TAX, implied: opcode AA (R237, R111). -/
  | tax
  /-- TAY, implied: opcode A8 (R238, R111). -/
  | tay
  /-- TSX, implied: opcode BA (R239, R111). -/
  | tsx
  /-- TXA, implied: opcode 8A (R240, R111). -/
  | txa
  /-- TXS, implied: opcode 9A (R241, R111). -/
  | txs
  /-- TYA, implied: opcode 98 (R242, R111). -/
  | tya
  deriving DecidableEq, Repr

/-- The format of a mode's operand bytes (R82, R83). -/
def AddrMode.format : AddrMode → Format
  | .imp | .acc => .f1
  | .imm => .f2i
  | .zp | .zpx | .zpy | .izx | .izy => .f2z
  | .rel => .f2r
  | .abs | .abx | .aby | .ind => .f3

/-- The bytes of an instruction in the format (R80, R82). -/
def Format.length : Format → Nat
  | .f1 => 1
  | .f2i | .f2z | .f2r => 2
  | .f3 => 3

/-- How the assembler writes the operand (R95). -/
def AddrMode.operandForm : AddrMode → String
  | .imp => ""
  | .acc => "A"
  | .imm => "# Oper"
  | .zp | .abs | .rel => "Oper"
  | .zpx | .abx => "Oper, X"
  | .zpy | .aby => "Oper, Y"
  | .izx => "(Oper, X)"
  | .izy => "(Oper), Y"
  | .ind => "(Oper)"

/-- The tier of a mnemonic: S for the 22 the source defines, G for the 34 it names (R3). -/
def Mnemonic.tier : Mnemonic → Tier
  | .adc | .asl | .bcc | .bcs | .beq | .bit | .bmi | .bne | .bpl | .bvc | .bvs | .cmp | .cpx | .cpy
  | .jmp | .jsr | .lsr | .rol | .ror | .rti | .rts | .sbc => .s
  | .and | .brk | .clc | .cld | .cli | .clv | .dec | .dex | .dey | .eor | .inc | .inx | .iny | .lda
  | .ldx | .ldy | .nop | .ora | .pha | .php | .pla | .plp | .sec | .sed | .sei | .sta | .stx | .sty
  | .tax | .tay | .tsx | .txa | .txs | .tya => .g

/-- The name the spec writes. -/
def Mnemonic.name : Mnemonic → String
  | .adc => "ADC"
  | .asl => "ASL"
  | .bcc => "BCC"
  | .bcs => "BCS"
  | .beq => "BEQ"
  | .bit => "BIT"
  | .bmi => "BMI"
  | .bne => "BNE"
  | .bpl => "BPL"
  | .bvc => "BVC"
  | .bvs => "BVS"
  | .cmp => "CMP"
  | .cpx => "CPX"
  | .cpy => "CPY"
  | .jmp => "JMP"
  | .jsr => "JSR"
  | .lsr => "LSR"
  | .rol => "ROL"
  | .ror => "ROR"
  | .rti => "RTI"
  | .rts => "RTS"
  | .sbc => "SBC"
  | .and => "AND"
  | .brk => "BRK"
  | .clc => "CLC"
  | .cld => "CLD"
  | .cli => "CLI"
  | .clv => "CLV"
  | .dec => "DEC"
  | .dex => "DEX"
  | .dey => "DEY"
  | .eor => "EOR"
  | .inc => "INC"
  | .inx => "INX"
  | .iny => "INY"
  | .lda => "LDA"
  | .ldx => "LDX"
  | .ldy => "LDY"
  | .nop => "NOP"
  | .ora => "ORA"
  | .pha => "PHA"
  | .php => "PHP"
  | .pla => "PLA"
  | .plp => "PLP"
  | .sec => "SEC"
  | .sed => "SED"
  | .sei => "SEI"
  | .sta => "STA"
  | .stx => "STX"
  | .sty => "STY"
  | .tax => "TAX"
  | .tay => "TAY"
  | .tsx => "TSX"
  | .txa => "TXA"
  | .txs => "TXS"
  | .tya => "TYA"

/-- The mnemonic of an instruction. -/
def Instr.mnemonic : Instr → Mnemonic
  | .adcImm _ | .adcZp _ | .adcZpx _ | .adcAbs _ | .adcAbx _ | .adcAby _ | .adcIzx _ | .adcIzy _ => .adc
  | .aslAcc | .aslZp _ | .aslZpx _ | .aslAbs _ | .aslAbx _ => .asl
  | .bcc _ => .bcc
  | .bcs _ => .bcs
  | .beq _ => .beq
  | .bitZp _ | .bitAbs _ => .bit
  | .bmi _ => .bmi
  | .bne _ => .bne
  | .bpl _ => .bpl
  | .bvc _ => .bvc
  | .bvs _ => .bvs
  | .cmpImm _ | .cmpZp _ | .cmpZpx _ | .cmpAbs _ | .cmpAbx _ | .cmpAby _ | .cmpIzx _ | .cmpIzy _ => .cmp
  | .cpxImm _ | .cpxZp _ | .cpxAbs _ => .cpx
  | .cpyImm _ | .cpyZp _ | .cpyAbs _ => .cpy
  | .jmpAbs _ | .jmpInd _ => .jmp
  | .jsr _ => .jsr
  | .lsrAcc | .lsrZp _ | .lsrZpx _ | .lsrAbs _ | .lsrAbx _ => .lsr
  | .rolAcc | .rolZp _ | .rolZpx _ | .rolAbs _ | .rolAbx _ => .rol
  | .rorAcc | .rorZp _ | .rorZpx _ | .rorAbs _ | .rorAbx _ => .ror
  | .rti => .rti
  | .rts => .rts
  | .sbcImm _ | .sbcZp _ | .sbcZpx _ | .sbcAbs _ | .sbcAbx _ | .sbcAby _ | .sbcIzx _ | .sbcIzy _ => .sbc
  | .andImm _ | .andZp _ | .andZpx _ | .andAbs _ | .andAbx _ | .andAby _ | .andIzx _ | .andIzy _ => .and
  | .brk => .brk
  | .clc => .clc
  | .cld => .cld
  | .cli => .cli
  | .clv => .clv
  | .decZp _ | .decZpx _ | .decAbs _ | .decAbx _ => .dec
  | .dex => .dex
  | .dey => .dey
  | .eorImm _ | .eorZp _ | .eorZpx _ | .eorAbs _ | .eorAbx _ | .eorAby _ | .eorIzx _ | .eorIzy _ => .eor
  | .incZp _ | .incZpx _ | .incAbs _ | .incAbx _ => .inc
  | .inx => .inx
  | .iny => .iny
  | .ldaImm _ | .ldaZp _ | .ldaZpx _ | .ldaAbs _ | .ldaAbx _ | .ldaAby _ | .ldaIzx _ | .ldaIzy _ => .lda
  | .ldxImm _ | .ldxZp _ | .ldxZpy _ | .ldxAbs _ | .ldxAby _ => .ldx
  | .ldyImm _ | .ldyZp _ | .ldyZpx _ | .ldyAbs _ | .ldyAbx _ => .ldy
  | .nop => .nop
  | .oraImm _ | .oraZp _ | .oraZpx _ | .oraAbs _ | .oraAbx _ | .oraAby _ | .oraIzx _ | .oraIzy _ => .ora
  | .pha => .pha
  | .php => .php
  | .pla => .pla
  | .plp => .plp
  | .sec => .sec
  | .sed => .sed
  | .sei => .sei
  | .staZp _ | .staZpx _ | .staAbs _ | .staAbx _ | .staAby _ | .staIzx _ | .staIzy _ => .sta
  | .stxZp _ | .stxZpy _ | .stxAbs _ => .stx
  | .styZp _ | .styZpx _ | .styAbs _ => .sty
  | .tax => .tax
  | .tay => .tay
  | .tsx => .tsx
  | .txa => .txa
  | .txs => .txs
  | .tya => .tya

/-- The addressing mode of an instruction. -/
def Instr.mode : Instr → AddrMode
  | .rti | .rts | .brk | .clc | .cld | .cli | .clv | .dex | .dey | .inx | .iny | .nop | .pha | .php
  | .pla | .plp | .sec | .sed | .sei | .tax | .tay | .tsx | .txa | .txs | .tya => .imp
  | .aslAcc | .lsrAcc | .rolAcc | .rorAcc => .acc
  | .adcImm _ | .cmpImm _ | .cpxImm _ | .cpyImm _ | .sbcImm _ | .andImm _ | .eorImm _ | .ldaImm _
  | .ldxImm _ | .ldyImm _ | .oraImm _ => .imm
  | .adcZp _ | .aslZp _ | .bitZp _ | .cmpZp _ | .cpxZp _ | .cpyZp _ | .lsrZp _ | .rolZp _ | .rorZp _
  | .sbcZp _ | .andZp _ | .decZp _ | .eorZp _ | .incZp _ | .ldaZp _ | .ldxZp _ | .ldyZp _ | .oraZp _
  | .staZp _ | .stxZp _ | .styZp _ => .zp
  | .adcZpx _ | .aslZpx _ | .cmpZpx _ | .lsrZpx _ | .rolZpx _ | .rorZpx _ | .sbcZpx _ | .andZpx _
  | .decZpx _ | .eorZpx _ | .incZpx _ | .ldaZpx _ | .ldyZpx _ | .oraZpx _ | .staZpx _ | .styZpx _ => .zpx
  | .ldxZpy _ | .stxZpy _ => .zpy
  | .adcAbs _ | .aslAbs _ | .bitAbs _ | .cmpAbs _ | .cpxAbs _ | .cpyAbs _ | .jmpAbs _ | .jsr _
  | .lsrAbs _ | .rolAbs _ | .rorAbs _ | .sbcAbs _ | .andAbs _ | .decAbs _ | .eorAbs _ | .incAbs _
  | .ldaAbs _ | .ldxAbs _ | .ldyAbs _ | .oraAbs _ | .staAbs _ | .stxAbs _ | .styAbs _ => .abs
  | .adcAbx _ | .aslAbx _ | .cmpAbx _ | .lsrAbx _ | .rolAbx _ | .rorAbx _ | .sbcAbx _ | .andAbx _
  | .decAbx _ | .eorAbx _ | .incAbx _ | .ldaAbx _ | .ldyAbx _ | .oraAbx _ | .staAbx _ => .abx
  | .adcAby _ | .cmpAby _ | .sbcAby _ | .andAby _ | .eorAby _ | .ldaAby _ | .ldxAby _ | .oraAby _
  | .staAby _ => .aby
  | .adcIzx _ | .cmpIzx _ | .sbcIzx _ | .andIzx _ | .eorIzx _ | .ldaIzx _ | .oraIzx _ | .staIzx _ => .izx
  | .adcIzy _ | .cmpIzy _ | .sbcIzy _ | .andIzy _ | .eorIzy _ | .ldaIzy _ | .oraIzy _ | .staIzy _ => .izy
  | .bcc _ | .bcs _ | .beq _ | .bmi _ | .bne _ | .bpl _ | .bvc _ | .bvs _ => .rel
  | .jmpInd _ => .ind

/-- The bytes of an instruction; BRK decodes one byte and returns past two (R80, R293). -/
def Instr.length (i : Instr) : Nat := i.mode.format.length

/-- The assembly language form of an instruction's row: the mnemonic and its operand (R95). -/
def Instr.assemblyForm (i : Instr) : String :=
  if i.mode = .imp then i.mnemonic.name else i.mnemonic.name ++ " " ++ i.mode.operandForm

end Sys2Proof
end

