-- ==== Sys2Proof/Machine/Dispatch.lean ====
section
/-! DEFINITION. Which meaning an instruction has: one arm per constructor of Instr. -/

namespace Sys2Proof.Machine

/-- The meaning of an instruction, in a state whose PC is at its opcode and whose history holds its
fetch (R10; log 26). -/
def exec (i : Instr) (s : State) : Host.Outcome State Fault Refusal :=
  match i with
  | .adcImm oper => Sys2Proof.Machine.execAdcImm oper s
  | .adcZp oper => Sys2Proof.Machine.execAdcZp oper s
  | .adcZpx oper => Sys2Proof.Machine.execAdcZpx oper s
  | .adcAbs oper => Sys2Proof.Machine.execAdcAbs oper s
  | .adcAbx oper => Sys2Proof.Machine.execAdcAbx oper s
  | .adcAby oper => Sys2Proof.Machine.execAdcAby oper s
  | .adcIzx oper => Sys2Proof.Machine.execAdcIzx oper s
  | .adcIzy oper => Sys2Proof.Machine.execAdcIzy oper s
  | .aslAcc => Sys2Proof.Machine.execAslAcc s
  | .aslZp oper => Sys2Proof.Machine.execAslZp oper s
  | .aslZpx oper => Sys2Proof.Machine.execAslZpx oper s
  | .aslAbs oper => Sys2Proof.Machine.execAslAbs oper s
  | .aslAbx oper => Sys2Proof.Machine.execAslAbx oper s
  | .bcc oper => Sys2Proof.Machine.execBcc oper s
  | .bcs oper => Sys2Proof.Machine.execBcs oper s
  | .beq oper => Sys2Proof.Machine.execBeq oper s
  | .bitZp oper => Sys2Proof.Machine.execBitZp oper s
  | .bitAbs oper => Sys2Proof.Machine.execBitAbs oper s
  | .bmi oper => Sys2Proof.Machine.execBmi oper s
  | .bne oper => Sys2Proof.Machine.execBne oper s
  | .bpl oper => Sys2Proof.Machine.execBpl oper s
  | .bvc oper => Sys2Proof.Machine.execBvc oper s
  | .bvs oper => Sys2Proof.Machine.execBvs oper s
  | .cmpImm oper => Sys2Proof.Machine.execCmpImm oper s
  | .cmpZp oper => Sys2Proof.Machine.execCmpZp oper s
  | .cmpZpx oper => Sys2Proof.Machine.execCmpZpx oper s
  | .cmpAbs oper => Sys2Proof.Machine.execCmpAbs oper s
  | .cmpAbx oper => Sys2Proof.Machine.execCmpAbx oper s
  | .cmpAby oper => Sys2Proof.Machine.execCmpAby oper s
  | .cmpIzx oper => Sys2Proof.Machine.execCmpIzx oper s
  | .cmpIzy oper => Sys2Proof.Machine.execCmpIzy oper s
  | .cpxImm oper => Sys2Proof.Machine.execCpxImm oper s
  | .cpxZp oper => Sys2Proof.Machine.execCpxZp oper s
  | .cpxAbs oper => Sys2Proof.Machine.execCpxAbs oper s
  | .cpyImm oper => Sys2Proof.Machine.execCpyImm oper s
  | .cpyZp oper => Sys2Proof.Machine.execCpyZp oper s
  | .cpyAbs oper => Sys2Proof.Machine.execCpyAbs oper s
  | .jmpAbs oper => Sys2Proof.Machine.execJmpAbs oper s
  | .jmpInd oper => Sys2Proof.Machine.execJmpInd oper s
  | .jsr oper => Sys2Proof.Machine.execJsr oper s
  | .lsrAcc => Sys2Proof.Machine.execLsrAcc s
  | .lsrZp oper => Sys2Proof.Machine.execLsrZp oper s
  | .lsrZpx oper => Sys2Proof.Machine.execLsrZpx oper s
  | .lsrAbs oper => Sys2Proof.Machine.execLsrAbs oper s
  | .lsrAbx oper => Sys2Proof.Machine.execLsrAbx oper s
  | .rolAcc => Sys2Proof.Machine.execRolAcc s
  | .rolZp oper => Sys2Proof.Machine.execRolZp oper s
  | .rolZpx oper => Sys2Proof.Machine.execRolZpx oper s
  | .rolAbs oper => Sys2Proof.Machine.execRolAbs oper s
  | .rolAbx oper => Sys2Proof.Machine.execRolAbx oper s
  | .rorAcc => Sys2Proof.Machine.execRorAcc s
  | .rorZp oper => Sys2Proof.Machine.execRorZp oper s
  | .rorZpx oper => Sys2Proof.Machine.execRorZpx oper s
  | .rorAbs oper => Sys2Proof.Machine.execRorAbs oper s
  | .rorAbx oper => Sys2Proof.Machine.execRorAbx oper s
  | .rti => Sys2Proof.Machine.execRti s
  | .rts => Sys2Proof.Machine.execRts s
  | .sbcImm oper => Sys2Proof.Machine.execSbcImm oper s
  | .sbcZp oper => Sys2Proof.Machine.execSbcZp oper s
  | .sbcZpx oper => Sys2Proof.Machine.execSbcZpx oper s
  | .sbcAbs oper => Sys2Proof.Machine.execSbcAbs oper s
  | .sbcAbx oper => Sys2Proof.Machine.execSbcAbx oper s
  | .sbcAby oper => Sys2Proof.Machine.execSbcAby oper s
  | .sbcIzx oper => Sys2Proof.Machine.execSbcIzx oper s
  | .sbcIzy oper => Sys2Proof.Machine.execSbcIzy oper s
  | .andImm oper => Sys2Proof.Machine.execAndImm oper s
  | .andZp oper => Sys2Proof.Machine.execAndZp oper s
  | .andZpx oper => Sys2Proof.Machine.execAndZpx oper s
  | .andAbs oper => Sys2Proof.Machine.execAndAbs oper s
  | .andAbx oper => Sys2Proof.Machine.execAndAbx oper s
  | .andAby oper => Sys2Proof.Machine.execAndAby oper s
  | .andIzx oper => Sys2Proof.Machine.execAndIzx oper s
  | .andIzy oper => Sys2Proof.Machine.execAndIzy oper s
  | .brk => Sys2Proof.Machine.execBrk s
  | .clc => Sys2Proof.Machine.execClc s
  | .cld => Sys2Proof.Machine.execCld s
  | .cli => Sys2Proof.Machine.execCli s
  | .clv => Sys2Proof.Machine.execClv s
  | .decZp oper => Sys2Proof.Machine.execDecZp oper s
  | .decZpx oper => Sys2Proof.Machine.execDecZpx oper s
  | .decAbs oper => Sys2Proof.Machine.execDecAbs oper s
  | .decAbx oper => Sys2Proof.Machine.execDecAbx oper s
  | .dex => Sys2Proof.Machine.execDex s
  | .dey => Sys2Proof.Machine.execDey s
  | .eorImm oper => Sys2Proof.Machine.execEorImm oper s
  | .eorZp oper => Sys2Proof.Machine.execEorZp oper s
  | .eorZpx oper => Sys2Proof.Machine.execEorZpx oper s
  | .eorAbs oper => Sys2Proof.Machine.execEorAbs oper s
  | .eorAbx oper => Sys2Proof.Machine.execEorAbx oper s
  | .eorAby oper => Sys2Proof.Machine.execEorAby oper s
  | .eorIzx oper => Sys2Proof.Machine.execEorIzx oper s
  | .eorIzy oper => Sys2Proof.Machine.execEorIzy oper s
  | .incZp oper => Sys2Proof.Machine.execIncZp oper s
  | .incZpx oper => Sys2Proof.Machine.execIncZpx oper s
  | .incAbs oper => Sys2Proof.Machine.execIncAbs oper s
  | .incAbx oper => Sys2Proof.Machine.execIncAbx oper s
  | .inx => Sys2Proof.Machine.execInx s
  | .iny => Sys2Proof.Machine.execIny s
  | .ldaImm oper => Sys2Proof.Machine.execLdaImm oper s
  | .ldaZp oper => Sys2Proof.Machine.execLdaZp oper s
  | .ldaZpx oper => Sys2Proof.Machine.execLdaZpx oper s
  | .ldaAbs oper => Sys2Proof.Machine.execLdaAbs oper s
  | .ldaAbx oper => Sys2Proof.Machine.execLdaAbx oper s
  | .ldaAby oper => Sys2Proof.Machine.execLdaAby oper s
  | .ldaIzx oper => Sys2Proof.Machine.execLdaIzx oper s
  | .ldaIzy oper => Sys2Proof.Machine.execLdaIzy oper s
  | .ldxImm oper => Sys2Proof.Machine.execLdxImm oper s
  | .ldxZp oper => Sys2Proof.Machine.execLdxZp oper s
  | .ldxZpy oper => Sys2Proof.Machine.execLdxZpy oper s
  | .ldxAbs oper => Sys2Proof.Machine.execLdxAbs oper s
  | .ldxAby oper => Sys2Proof.Machine.execLdxAby oper s
  | .ldyImm oper => Sys2Proof.Machine.execLdyImm oper s
  | .ldyZp oper => Sys2Proof.Machine.execLdyZp oper s
  | .ldyZpx oper => Sys2Proof.Machine.execLdyZpx oper s
  | .ldyAbs oper => Sys2Proof.Machine.execLdyAbs oper s
  | .ldyAbx oper => Sys2Proof.Machine.execLdyAbx oper s
  | .nop => Sys2Proof.Machine.execNop s
  | .oraImm oper => Sys2Proof.Machine.execOraImm oper s
  | .oraZp oper => Sys2Proof.Machine.execOraZp oper s
  | .oraZpx oper => Sys2Proof.Machine.execOraZpx oper s
  | .oraAbs oper => Sys2Proof.Machine.execOraAbs oper s
  | .oraAbx oper => Sys2Proof.Machine.execOraAbx oper s
  | .oraAby oper => Sys2Proof.Machine.execOraAby oper s
  | .oraIzx oper => Sys2Proof.Machine.execOraIzx oper s
  | .oraIzy oper => Sys2Proof.Machine.execOraIzy oper s
  | .pha => Sys2Proof.Machine.execPha s
  | .php => Sys2Proof.Machine.execPhp s
  | .pla => Sys2Proof.Machine.execPla s
  | .plp => Sys2Proof.Machine.execPlp s
  | .sec => Sys2Proof.Machine.execSec s
  | .sed => Sys2Proof.Machine.execSed s
  | .sei => Sys2Proof.Machine.execSei s
  | .staZp oper => Sys2Proof.Machine.execStaZp oper s
  | .staZpx oper => Sys2Proof.Machine.execStaZpx oper s
  | .staAbs oper => Sys2Proof.Machine.execStaAbs oper s
  | .staAbx oper => Sys2Proof.Machine.execStaAbx oper s
  | .staAby oper => Sys2Proof.Machine.execStaAby oper s
  | .staIzx oper => Sys2Proof.Machine.execStaIzx oper s
  | .staIzy oper => Sys2Proof.Machine.execStaIzy oper s
  | .stxZp oper => Sys2Proof.Machine.execStxZp oper s
  | .stxZpy oper => Sys2Proof.Machine.execStxZpy oper s
  | .stxAbs oper => Sys2Proof.Machine.execStxAbs oper s
  | .styZp oper => Sys2Proof.Machine.execStyZp oper s
  | .styZpx oper => Sys2Proof.Machine.execStyZpx oper s
  | .styAbs oper => Sys2Proof.Machine.execStyAbs oper s
  | .tax => Sys2Proof.Machine.execTax s
  | .tay => Sys2Proof.Machine.execTay s
  | .tsx => Sys2Proof.Machine.execTsx s
  | .txa => Sys2Proof.Machine.execTxa s
  | .txs => Sys2Proof.Machine.execTxs s
  | .tya => Sys2Proof.Machine.execTya s

end Sys2Proof.Machine
end

