-- ==== Sys2Proof/Decode.lean ====
section
/-! DEFINITION. The opcode table (R89, R90), the decoder and the encoder. The first byte alone
determines the instruction, its mode and its length (R80). -/

namespace Sys2Proof

open Machine (hiLo wordBytes)

/-- What a row makes of the operand bytes (R81, R82). -/
inductive Build where
  | implied (i : Instr)
  | oneByte (f : Byte → Instr)
  | twoBytes (f : Word → Instr)

/-- The operand bytes after the opcode. -/
def Build.operandBytes : Build → Nat
  | .implied _ => 0
  | .oneByte _ => 1
  | .twoBytes _ => 2

/-- The suffix of a row's cycle count: none, `+p`, `+b` (R89, R90). -/
inductive Extra where
  | fixed
  | page
  | branch
  deriving DecidableEq, Repr

/-- A row of the opcode table. -/
structure Row where
  opcode : Byte
  mnemonic : Mnemonic
  mode : AddrMode
  cycles : Nat
  extra : Extra
  build : Build

/-- Rows of ADC, SBC, AND, EOR, ORA. -/
def readRows : List Row := [
  ⟨0x69#8, .adc, .imm, 2, .fixed, .oneByte .adcImm⟩,
  ⟨0x65#8, .adc, .zp, 3, .fixed, .oneByte .adcZp⟩,
  ⟨0x75#8, .adc, .zpx, 4, .fixed, .oneByte .adcZpx⟩,
  ⟨0x6D#8, .adc, .abs, 4, .fixed, .twoBytes .adcAbs⟩,
  ⟨0x7D#8, .adc, .abx, 4, .page, .twoBytes .adcAbx⟩,
  ⟨0x79#8, .adc, .aby, 4, .page, .twoBytes .adcAby⟩,
  ⟨0x61#8, .adc, .izx, 6, .fixed, .oneByte .adcIzx⟩,
  ⟨0x71#8, .adc, .izy, 5, .page, .oneByte .adcIzy⟩,
  ⟨0xE9#8, .sbc, .imm, 2, .fixed, .oneByte .sbcImm⟩,
  ⟨0xE5#8, .sbc, .zp, 3, .fixed, .oneByte .sbcZp⟩,
  ⟨0xF5#8, .sbc, .zpx, 4, .fixed, .oneByte .sbcZpx⟩,
  ⟨0xED#8, .sbc, .abs, 4, .fixed, .twoBytes .sbcAbs⟩,
  ⟨0xFD#8, .sbc, .abx, 4, .page, .twoBytes .sbcAbx⟩,
  ⟨0xF9#8, .sbc, .aby, 4, .page, .twoBytes .sbcAby⟩,
  ⟨0xE1#8, .sbc, .izx, 6, .fixed, .oneByte .sbcIzx⟩,
  ⟨0xF1#8, .sbc, .izy, 5, .page, .oneByte .sbcIzy⟩,
  ⟨0x29#8, .and, .imm, 2, .fixed, .oneByte .andImm⟩,
  ⟨0x25#8, .and, .zp, 3, .fixed, .oneByte .andZp⟩,
  ⟨0x35#8, .and, .zpx, 4, .fixed, .oneByte .andZpx⟩,
  ⟨0x2D#8, .and, .abs, 4, .fixed, .twoBytes .andAbs⟩,
  ⟨0x3D#8, .and, .abx, 4, .page, .twoBytes .andAbx⟩,
  ⟨0x39#8, .and, .aby, 4, .page, .twoBytes .andAby⟩,
  ⟨0x21#8, .and, .izx, 6, .fixed, .oneByte .andIzx⟩,
  ⟨0x31#8, .and, .izy, 5, .page, .oneByte .andIzy⟩,
  ⟨0x49#8, .eor, .imm, 2, .fixed, .oneByte .eorImm⟩,
  ⟨0x45#8, .eor, .zp, 3, .fixed, .oneByte .eorZp⟩,
  ⟨0x55#8, .eor, .zpx, 4, .fixed, .oneByte .eorZpx⟩,
  ⟨0x4D#8, .eor, .abs, 4, .fixed, .twoBytes .eorAbs⟩,
  ⟨0x5D#8, .eor, .abx, 4, .page, .twoBytes .eorAbx⟩,
  ⟨0x59#8, .eor, .aby, 4, .page, .twoBytes .eorAby⟩,
  ⟨0x41#8, .eor, .izx, 6, .fixed, .oneByte .eorIzx⟩,
  ⟨0x51#8, .eor, .izy, 5, .page, .oneByte .eorIzy⟩,
  ⟨0x09#8, .ora, .imm, 2, .fixed, .oneByte .oraImm⟩,
  ⟨0x05#8, .ora, .zp, 3, .fixed, .oneByte .oraZp⟩,
  ⟨0x15#8, .ora, .zpx, 4, .fixed, .oneByte .oraZpx⟩,
  ⟨0x0D#8, .ora, .abs, 4, .fixed, .twoBytes .oraAbs⟩,
  ⟨0x1D#8, .ora, .abx, 4, .page, .twoBytes .oraAbx⟩,
  ⟨0x19#8, .ora, .aby, 4, .page, .twoBytes .oraAby⟩,
  ⟨0x01#8, .ora, .izx, 6, .fixed, .oneByte .oraIzx⟩,
  ⟨0x11#8, .ora, .izy, 5, .page, .oneByte .oraIzy⟩]

/-- Rows of CMP, CPX, CPY, BIT. -/
def compareRows : List Row := [
  ⟨0xC9#8, .cmp, .imm, 2, .fixed, .oneByte .cmpImm⟩,
  ⟨0xC5#8, .cmp, .zp, 3, .fixed, .oneByte .cmpZp⟩,
  ⟨0xD5#8, .cmp, .zpx, 4, .fixed, .oneByte .cmpZpx⟩,
  ⟨0xCD#8, .cmp, .abs, 4, .fixed, .twoBytes .cmpAbs⟩,
  ⟨0xDD#8, .cmp, .abx, 4, .page, .twoBytes .cmpAbx⟩,
  ⟨0xD9#8, .cmp, .aby, 4, .page, .twoBytes .cmpAby⟩,
  ⟨0xC1#8, .cmp, .izx, 6, .fixed, .oneByte .cmpIzx⟩,
  ⟨0xD1#8, .cmp, .izy, 5, .page, .oneByte .cmpIzy⟩,
  ⟨0xE0#8, .cpx, .imm, 2, .fixed, .oneByte .cpxImm⟩,
  ⟨0xE4#8, .cpx, .zp, 3, .fixed, .oneByte .cpxZp⟩,
  ⟨0xEC#8, .cpx, .abs, 4, .fixed, .twoBytes .cpxAbs⟩,
  ⟨0xC0#8, .cpy, .imm, 2, .fixed, .oneByte .cpyImm⟩,
  ⟨0xC4#8, .cpy, .zp, 3, .fixed, .oneByte .cpyZp⟩,
  ⟨0xCC#8, .cpy, .abs, 4, .fixed, .twoBytes .cpyAbs⟩,
  ⟨0x24#8, .bit, .zp, 3, .fixed, .oneByte .bitZp⟩,
  ⟨0x2C#8, .bit, .abs, 4, .fixed, .twoBytes .bitAbs⟩]

/-- Rows of ASL, LSR, ROL, ROR. -/
def shiftRows : List Row := [
  ⟨0x0A#8, .asl, .acc, 2, .fixed, .implied .aslAcc⟩,
  ⟨0x06#8, .asl, .zp, 5, .fixed, .oneByte .aslZp⟩,
  ⟨0x16#8, .asl, .zpx, 6, .fixed, .oneByte .aslZpx⟩,
  ⟨0x0E#8, .asl, .abs, 6, .fixed, .twoBytes .aslAbs⟩,
  ⟨0x1E#8, .asl, .abx, 7, .fixed, .twoBytes .aslAbx⟩,
  ⟨0x4A#8, .lsr, .acc, 2, .fixed, .implied .lsrAcc⟩,
  ⟨0x46#8, .lsr, .zp, 5, .fixed, .oneByte .lsrZp⟩,
  ⟨0x56#8, .lsr, .zpx, 6, .fixed, .oneByte .lsrZpx⟩,
  ⟨0x4E#8, .lsr, .abs, 6, .fixed, .twoBytes .lsrAbs⟩,
  ⟨0x5E#8, .lsr, .abx, 7, .fixed, .twoBytes .lsrAbx⟩,
  ⟨0x2A#8, .rol, .acc, 2, .fixed, .implied .rolAcc⟩,
  ⟨0x26#8, .rol, .zp, 5, .fixed, .oneByte .rolZp⟩,
  ⟨0x36#8, .rol, .zpx, 6, .fixed, .oneByte .rolZpx⟩,
  ⟨0x2E#8, .rol, .abs, 6, .fixed, .twoBytes .rolAbs⟩,
  ⟨0x3E#8, .rol, .abx, 7, .fixed, .twoBytes .rolAbx⟩,
  ⟨0x6A#8, .ror, .acc, 2, .fixed, .implied .rorAcc⟩,
  ⟨0x66#8, .ror, .zp, 5, .fixed, .oneByte .rorZp⟩,
  ⟨0x76#8, .ror, .zpx, 6, .fixed, .oneByte .rorZpx⟩,
  ⟨0x6E#8, .ror, .abs, 6, .fixed, .twoBytes .rorAbs⟩,
  ⟨0x7E#8, .ror, .abx, 7, .fixed, .twoBytes .rorAbx⟩]

/-- Rows of the eight branches. -/
def branchRows : List Row := [
  ⟨0x90#8, .bcc, .rel, 2, .branch, .oneByte .bcc⟩,
  ⟨0xB0#8, .bcs, .rel, 2, .branch, .oneByte .bcs⟩,
  ⟨0xF0#8, .beq, .rel, 2, .branch, .oneByte .beq⟩,
  ⟨0x30#8, .bmi, .rel, 2, .branch, .oneByte .bmi⟩,
  ⟨0xD0#8, .bne, .rel, 2, .branch, .oneByte .bne⟩,
  ⟨0x10#8, .bpl, .rel, 2, .branch, .oneByte .bpl⟩,
  ⟨0x50#8, .bvc, .rel, 2, .branch, .oneByte .bvc⟩,
  ⟨0x70#8, .bvs, .rel, 2, .branch, .oneByte .bvs⟩]

/-- Rows of JMP, JSR, RTS, RTI. -/
def jumpRows : List Row := [
  ⟨0x4C#8, .jmp, .abs, 3, .fixed, .twoBytes .jmpAbs⟩,
  ⟨0x6C#8, .jmp, .ind, 5, .fixed, .twoBytes .jmpInd⟩,
  ⟨0x20#8, .jsr, .abs, 6, .fixed, .twoBytes .jsr⟩,
  ⟨0x60#8, .rts, .imp, 6, .fixed, .implied .rts⟩,
  ⟨0x40#8, .rti, .imp, 6, .fixed, .implied .rti⟩]

/-- Rows of LDA, LDX, LDY. -/
def loadRows : List Row := [
  ⟨0xA9#8, .lda, .imm, 2, .fixed, .oneByte .ldaImm⟩,
  ⟨0xA5#8, .lda, .zp, 3, .fixed, .oneByte .ldaZp⟩,
  ⟨0xB5#8, .lda, .zpx, 4, .fixed, .oneByte .ldaZpx⟩,
  ⟨0xAD#8, .lda, .abs, 4, .fixed, .twoBytes .ldaAbs⟩,
  ⟨0xBD#8, .lda, .abx, 4, .page, .twoBytes .ldaAbx⟩,
  ⟨0xB9#8, .lda, .aby, 4, .page, .twoBytes .ldaAby⟩,
  ⟨0xA1#8, .lda, .izx, 6, .fixed, .oneByte .ldaIzx⟩,
  ⟨0xB1#8, .lda, .izy, 5, .page, .oneByte .ldaIzy⟩,
  ⟨0xA2#8, .ldx, .imm, 2, .fixed, .oneByte .ldxImm⟩,
  ⟨0xA6#8, .ldx, .zp, 3, .fixed, .oneByte .ldxZp⟩,
  ⟨0xB6#8, .ldx, .zpy, 4, .fixed, .oneByte .ldxZpy⟩,
  ⟨0xAE#8, .ldx, .abs, 4, .fixed, .twoBytes .ldxAbs⟩,
  ⟨0xBE#8, .ldx, .aby, 4, .page, .twoBytes .ldxAby⟩,
  ⟨0xA0#8, .ldy, .imm, 2, .fixed, .oneByte .ldyImm⟩,
  ⟨0xA4#8, .ldy, .zp, 3, .fixed, .oneByte .ldyZp⟩,
  ⟨0xB4#8, .ldy, .zpx, 4, .fixed, .oneByte .ldyZpx⟩,
  ⟨0xAC#8, .ldy, .abs, 4, .fixed, .twoBytes .ldyAbs⟩,
  ⟨0xBC#8, .ldy, .abx, 4, .page, .twoBytes .ldyAbx⟩]

/-- Rows of STA, STX, STY. -/
def storeRows : List Row := [
  ⟨0x85#8, .sta, .zp, 3, .fixed, .oneByte .staZp⟩,
  ⟨0x95#8, .sta, .zpx, 4, .fixed, .oneByte .staZpx⟩,
  ⟨0x8D#8, .sta, .abs, 4, .fixed, .twoBytes .staAbs⟩,
  ⟨0x9D#8, .sta, .abx, 5, .fixed, .twoBytes .staAbx⟩,
  ⟨0x99#8, .sta, .aby, 5, .fixed, .twoBytes .staAby⟩,
  ⟨0x81#8, .sta, .izx, 6, .fixed, .oneByte .staIzx⟩,
  ⟨0x91#8, .sta, .izy, 6, .fixed, .oneByte .staIzy⟩,
  ⟨0x86#8, .stx, .zp, 3, .fixed, .oneByte .stxZp⟩,
  ⟨0x96#8, .stx, .zpy, 4, .fixed, .oneByte .stxZpy⟩,
  ⟨0x8E#8, .stx, .abs, 4, .fixed, .twoBytes .stxAbs⟩,
  ⟨0x84#8, .sty, .zp, 3, .fixed, .oneByte .styZp⟩,
  ⟨0x94#8, .sty, .zpx, 4, .fixed, .oneByte .styZpx⟩,
  ⟨0x8C#8, .sty, .abs, 4, .fixed, .twoBytes .styAbs⟩]

/-- Rows of the six transfers. -/
def transferRows : List Row := [
  ⟨0xAA#8, .tax, .imp, 2, .fixed, .implied .tax⟩,
  ⟨0xA8#8, .tay, .imp, 2, .fixed, .implied .tay⟩,
  ⟨0xBA#8, .tsx, .imp, 2, .fixed, .implied .tsx⟩,
  ⟨0x8A#8, .txa, .imp, 2, .fixed, .implied .txa⟩,
  ⟨0x9A#8, .txs, .imp, 2, .fixed, .implied .txs⟩,
  ⟨0x98#8, .tya, .imp, 2, .fixed, .implied .tya⟩]

/-- Rows of INC, DEC, INX, INY, DEX, DEY. -/
def countRows : List Row := [
  ⟨0xE6#8, .inc, .zp, 5, .fixed, .oneByte .incZp⟩,
  ⟨0xF6#8, .inc, .zpx, 6, .fixed, .oneByte .incZpx⟩,
  ⟨0xEE#8, .inc, .abs, 6, .fixed, .twoBytes .incAbs⟩,
  ⟨0xFE#8, .inc, .abx, 7, .fixed, .twoBytes .incAbx⟩,
  ⟨0xC6#8, .dec, .zp, 5, .fixed, .oneByte .decZp⟩,
  ⟨0xD6#8, .dec, .zpx, 6, .fixed, .oneByte .decZpx⟩,
  ⟨0xCE#8, .dec, .abs, 6, .fixed, .twoBytes .decAbs⟩,
  ⟨0xDE#8, .dec, .abx, 7, .fixed, .twoBytes .decAbx⟩,
  ⟨0xE8#8, .inx, .imp, 2, .fixed, .implied .inx⟩,
  ⟨0xC8#8, .iny, .imp, 2, .fixed, .implied .iny⟩,
  ⟨0xCA#8, .dex, .imp, 2, .fixed, .implied .dex⟩,
  ⟨0x88#8, .dey, .imp, 2, .fixed, .implied .dey⟩]

/-- Rows of the stack, the flags, NOP, BRK. -/
def systemRows : List Row := [
  ⟨0x48#8, .pha, .imp, 3, .fixed, .implied .pha⟩,
  ⟨0x08#8, .php, .imp, 3, .fixed, .implied .php⟩,
  ⟨0x68#8, .pla, .imp, 4, .fixed, .implied .pla⟩,
  ⟨0x28#8, .plp, .imp, 4, .fixed, .implied .plp⟩,
  ⟨0x18#8, .clc, .imp, 2, .fixed, .implied .clc⟩,
  ⟨0xD8#8, .cld, .imp, 2, .fixed, .implied .cld⟩,
  ⟨0x58#8, .cli, .imp, 2, .fixed, .implied .cli⟩,
  ⟨0xB8#8, .clv, .imp, 2, .fixed, .implied .clv⟩,
  ⟨0x38#8, .sec, .imp, 2, .fixed, .implied .sec⟩,
  ⟨0xF8#8, .sed, .imp, 2, .fixed, .implied .sed⟩,
  ⟨0x78#8, .sei, .imp, 2, .fixed, .implied .sei⟩,
  ⟨0xEA#8, .nop, .imp, 2, .fixed, .implied .nop⟩,
  ⟨0x00#8, .brk, .imp, 7, .fixed, .implied .brk⟩]

/-- The opcode table: 151 rows (R89, R90, R91). -/
def opcodeTable : List Row :=
  readRows ++ compareRows ++ shiftRows ++ branchRows ++ jumpRows ++
    loadRows ++ storeRows ++ transferRows ++ countRows ++ systemRows

/-- The first row of the list with the opcode. -/
def findRow : List Row → Byte → Option Row
  | [], _ => none
  | row :: rest, op => if row.opcode = op then some row else findRow rest op

/-- The row of an opcode byte; none for the 105 undefined bytes (R91, R92). -/
def rowOf (op : Byte) : Option Row := findRow opcodeTable op

/-- Why bytes are no instruction. -/
inductive DecodeError where
  /-- The opcode byte has no row (R92). -/
  | undefinedOpcode (op : Byte)
  /-- The bytes end before the instruction does. -/
  | truncated
  deriving DecidableEq, Repr

/-- The instruction at the head of the bytes, and the bytes after it (R80, R81). -/
def decode : List Byte → Except DecodeError (Instr × List Byte)
  | [] => .error .truncated
  | op :: rest =>
    match rowOf op with
    | none => .error (.undefinedOpcode op)
    | some row =>
      match row.build, rest with
      | .implied i, rest => .ok (i, rest)
      | .oneByte f, oper :: rest => .ok (f oper, rest)
      | .twoBytes f, oper :: operHi :: rest => .ok (f (hiLo operHi oper), rest)
      | .oneByte _, [] => .error .truncated
      | .twoBytes _, [] => .error .truncated
      | .twoBytes _, [_] => .error .truncated

/-- The bytes of an instruction, opcode first, an address low byte first (R80, R81, R89, R90). -/
def encode : Instr → List Byte
  | .adcImm oper => [0x69#8, oper]
  | .adcZp oper => [0x65#8, oper]
  | .adcZpx oper => [0x75#8, oper]
  | .adcAbs oper => 0x6D#8 :: wordBytes oper
  | .adcAbx oper => 0x7D#8 :: wordBytes oper
  | .adcAby oper => 0x79#8 :: wordBytes oper
  | .adcIzx oper => [0x61#8, oper]
  | .adcIzy oper => [0x71#8, oper]
  | .aslAcc => [0x0A#8]
  | .aslZp oper => [0x06#8, oper]
  | .aslZpx oper => [0x16#8, oper]
  | .aslAbs oper => 0x0E#8 :: wordBytes oper
  | .aslAbx oper => 0x1E#8 :: wordBytes oper
  | .bcc oper => [0x90#8, oper]
  | .bcs oper => [0xB0#8, oper]
  | .beq oper => [0xF0#8, oper]
  | .bitZp oper => [0x24#8, oper]
  | .bitAbs oper => 0x2C#8 :: wordBytes oper
  | .bmi oper => [0x30#8, oper]
  | .bne oper => [0xD0#8, oper]
  | .bpl oper => [0x10#8, oper]
  | .bvc oper => [0x50#8, oper]
  | .bvs oper => [0x70#8, oper]
  | .cmpImm oper => [0xC9#8, oper]
  | .cmpZp oper => [0xC5#8, oper]
  | .cmpZpx oper => [0xD5#8, oper]
  | .cmpAbs oper => 0xCD#8 :: wordBytes oper
  | .cmpAbx oper => 0xDD#8 :: wordBytes oper
  | .cmpAby oper => 0xD9#8 :: wordBytes oper
  | .cmpIzx oper => [0xC1#8, oper]
  | .cmpIzy oper => [0xD1#8, oper]
  | .cpxImm oper => [0xE0#8, oper]
  | .cpxZp oper => [0xE4#8, oper]
  | .cpxAbs oper => 0xEC#8 :: wordBytes oper
  | .cpyImm oper => [0xC0#8, oper]
  | .cpyZp oper => [0xC4#8, oper]
  | .cpyAbs oper => 0xCC#8 :: wordBytes oper
  | .jmpAbs oper => 0x4C#8 :: wordBytes oper
  | .jmpInd oper => 0x6C#8 :: wordBytes oper
  | .jsr oper => 0x20#8 :: wordBytes oper
  | .lsrAcc => [0x4A#8]
  | .lsrZp oper => [0x46#8, oper]
  | .lsrZpx oper => [0x56#8, oper]
  | .lsrAbs oper => 0x4E#8 :: wordBytes oper
  | .lsrAbx oper => 0x5E#8 :: wordBytes oper
  | .rolAcc => [0x2A#8]
  | .rolZp oper => [0x26#8, oper]
  | .rolZpx oper => [0x36#8, oper]
  | .rolAbs oper => 0x2E#8 :: wordBytes oper
  | .rolAbx oper => 0x3E#8 :: wordBytes oper
  | .rorAcc => [0x6A#8]
  | .rorZp oper => [0x66#8, oper]
  | .rorZpx oper => [0x76#8, oper]
  | .rorAbs oper => 0x6E#8 :: wordBytes oper
  | .rorAbx oper => 0x7E#8 :: wordBytes oper
  | .rti => [0x40#8]
  | .rts => [0x60#8]
  | .sbcImm oper => [0xE9#8, oper]
  | .sbcZp oper => [0xE5#8, oper]
  | .sbcZpx oper => [0xF5#8, oper]
  | .sbcAbs oper => 0xED#8 :: wordBytes oper
  | .sbcAbx oper => 0xFD#8 :: wordBytes oper
  | .sbcAby oper => 0xF9#8 :: wordBytes oper
  | .sbcIzx oper => [0xE1#8, oper]
  | .sbcIzy oper => [0xF1#8, oper]
  | .andImm oper => [0x29#8, oper]
  | .andZp oper => [0x25#8, oper]
  | .andZpx oper => [0x35#8, oper]
  | .andAbs oper => 0x2D#8 :: wordBytes oper
  | .andAbx oper => 0x3D#8 :: wordBytes oper
  | .andAby oper => 0x39#8 :: wordBytes oper
  | .andIzx oper => [0x21#8, oper]
  | .andIzy oper => [0x31#8, oper]
  | .brk => [0x00#8]
  | .clc => [0x18#8]
  | .cld => [0xD8#8]
  | .cli => [0x58#8]
  | .clv => [0xB8#8]
  | .decZp oper => [0xC6#8, oper]
  | .decZpx oper => [0xD6#8, oper]
  | .decAbs oper => 0xCE#8 :: wordBytes oper
  | .decAbx oper => 0xDE#8 :: wordBytes oper
  | .dex => [0xCA#8]
  | .dey => [0x88#8]
  | .eorImm oper => [0x49#8, oper]
  | .eorZp oper => [0x45#8, oper]
  | .eorZpx oper => [0x55#8, oper]
  | .eorAbs oper => 0x4D#8 :: wordBytes oper
  | .eorAbx oper => 0x5D#8 :: wordBytes oper
  | .eorAby oper => 0x59#8 :: wordBytes oper
  | .eorIzx oper => [0x41#8, oper]
  | .eorIzy oper => [0x51#8, oper]
  | .incZp oper => [0xE6#8, oper]
  | .incZpx oper => [0xF6#8, oper]
  | .incAbs oper => 0xEE#8 :: wordBytes oper
  | .incAbx oper => 0xFE#8 :: wordBytes oper
  | .inx => [0xE8#8]
  | .iny => [0xC8#8]
  | .ldaImm oper => [0xA9#8, oper]
  | .ldaZp oper => [0xA5#8, oper]
  | .ldaZpx oper => [0xB5#8, oper]
  | .ldaAbs oper => 0xAD#8 :: wordBytes oper
  | .ldaAbx oper => 0xBD#8 :: wordBytes oper
  | .ldaAby oper => 0xB9#8 :: wordBytes oper
  | .ldaIzx oper => [0xA1#8, oper]
  | .ldaIzy oper => [0xB1#8, oper]
  | .ldxImm oper => [0xA2#8, oper]
  | .ldxZp oper => [0xA6#8, oper]
  | .ldxZpy oper => [0xB6#8, oper]
  | .ldxAbs oper => 0xAE#8 :: wordBytes oper
  | .ldxAby oper => 0xBE#8 :: wordBytes oper
  | .ldyImm oper => [0xA0#8, oper]
  | .ldyZp oper => [0xA4#8, oper]
  | .ldyZpx oper => [0xB4#8, oper]
  | .ldyAbs oper => 0xAC#8 :: wordBytes oper
  | .ldyAbx oper => 0xBC#8 :: wordBytes oper
  | .nop => [0xEA#8]
  | .oraImm oper => [0x09#8, oper]
  | .oraZp oper => [0x05#8, oper]
  | .oraZpx oper => [0x15#8, oper]
  | .oraAbs oper => 0x0D#8 :: wordBytes oper
  | .oraAbx oper => 0x1D#8 :: wordBytes oper
  | .oraAby oper => 0x19#8 :: wordBytes oper
  | .oraIzx oper => [0x01#8, oper]
  | .oraIzy oper => [0x11#8, oper]
  | .pha => [0x48#8]
  | .php => [0x08#8]
  | .pla => [0x68#8]
  | .plp => [0x28#8]
  | .sec => [0x38#8]
  | .sed => [0xF8#8]
  | .sei => [0x78#8]
  | .staZp oper => [0x85#8, oper]
  | .staZpx oper => [0x95#8, oper]
  | .staAbs oper => 0x8D#8 :: wordBytes oper
  | .staAbx oper => 0x9D#8 :: wordBytes oper
  | .staAby oper => 0x99#8 :: wordBytes oper
  | .staIzx oper => [0x81#8, oper]
  | .staIzy oper => [0x91#8, oper]
  | .stxZp oper => [0x86#8, oper]
  | .stxZpy oper => [0x96#8, oper]
  | .stxAbs oper => 0x8E#8 :: wordBytes oper
  | .styZp oper => [0x84#8, oper]
  | .styZpx oper => [0x94#8, oper]
  | .styAbs oper => 0x8C#8 :: wordBytes oper
  | .tax => [0xAA#8]
  | .tay => [0xA8#8]
  | .tsx => [0xBA#8]
  | .txa => [0x8A#8]
  | .txs => [0x9A#8]
  | .tya => [0x98#8]

/-- The `count` bytes of a number, its least significant byte first. -/
def bytesOfNat : Nat → Nat → List Byte
  | 0, _ => []
  | count + 1, w => BitVec.ofNat 8 w :: bytesOfNat count (w / 256)

/-- The bytes of a table word: its `nbits / 8` bytes, the opcode in bits 7 to 0, and zeros up to the
longest instruction, three bytes. -/
def tableBytes (nbits w : Nat) : List Byte := bytesOfNat 3 (w % 2 ^ nbits)

/-- The instruction the decoder reads from a table word. -/
def decodeTableWord (nbits w : Nat) : Option Instr :=
  match decode (tableBytes nbits w) with
  | .ok (i, _) => some i
  | .error _ => none

end Sys2Proof
end

