-- ==== Sys2Proof/WellFormed.lean ====
section
/-! DEFINITION. Which instructions a part has. No field of an instruction can be ill-formed: every
operand byte is legal and no bit is reserved (R93). What can rule an instruction out is the part:
tier G without `admit_tier_G` (R3, R90, D1), ROR without `has_ROR` (R94, R356, D3). -/

namespace Sys2Proof

/-- The part admits the instruction's tier (R90). Opcodes are all that the switch rules out (DESIGN CHOICE, log 30). -/
def tierAdmitted (p : Params) (i : Instr) : Bool :=
  match i.mnemonic.tier with
  | .s => true
  | .g => p.admitTierG

/-- The part has ROR, or the instruction is another (R94). -/
def rorAdmitted (p : Params) (i : Instr) : Bool :=
  match i.mnemonic with
  | .ror => p.hasRor
  | _ => true

/-- The instruction is defined on the part; the opcode of any other is undefined there (R92). -/
def wellFormed (p : Params) (i : Instr) : Bool := tierAdmitted p i && rorAdmitted p i

end Sys2Proof
end

