-- ==== Sys2Proof/Machine/Fetch.lean ====
section
/-! DEFINITION. Fetching an instruction: the opcode byte at PC, then its operand bytes at rising
addresses, each a bus access (R10, R54, R80, R81). -/

namespace Sys2Proof.Machine

/-- `count` reads at rising addresses, modulo 2^16, and the bytes they deliver (R26, R54). -/
def readBytes : Nat → Word → State → List Byte × State
  | 0, _, s => ([], s)
  | count + 1, a, s =>
    let rest := readBytes count (a + 1) (s.noteRead a)
    (s.peek a :: rest.1, rest.2)

/-- Bytes of an instruction that its body reads itself, after other accesses: JSR's third (R64, R212). -/
def bodyReads (i : Instr) : Nat := if i.mnemonic = .jsr then 1 else 0

/-- What is found at PC: an instruction, in the state after its fetch, or a byte that is no opcode of the part. -/
inductive Fetched where
  | instr (i : Instr) (s : State)
  | undefined (op : Byte) (s : State)

/-- The fetch at PC (R10). -/
def State.fetch (s : State) : Fetched :=
  let op := s.peek s.pc
  match rowOf op with
  | none => .undefined op (s.noteRead s.pc)
  | some row =>
    let count := row.build.operandBytes + 1
    match decode (readBytes count s.pc s).1 with
    | .error _ => .undefined op (s.noteRead s.pc)
    | .ok (i, _) =>
      if wellFormed s.params i then .instr i (readBytes (count - bodyReads i) s.pc s).2
      else .undefined op (s.noteRead s.pc)

/-- A part of the program put into memory from outside, byte after byte (R366, log 5). -/
def placeBytes : List Byte → Word → Memory → Memory
  | [], _, m => m
  | v :: rest, a, m => placeBytes rest (a + 1) (m.write a.toNat v)

/-- Memory answers a fetch at each of the `count` addresses from `a` on. -/
def allBacked (s : State) : Nat → Word → Bool
  | 0, _ => true
  | count + 1, a => backed (s.kindAt a) && allBacked s count (a + 1)

/-- The state whose next step fetches the bytes placed at PC: they are in memory that answers a
fetch, and no event diverts the next boundary. -/
def State.placeAtPc (s : State) (bytes : List Byte) : State :=
  { s with
    mem := placeBytes bytes s.pc s.mem
    params :=
      if allBacked s bytes.length s.pc then s.params
      else { s.params with memMap := { base := s.pc, size := bytes.length, kind := .ram } :: s.params.memMap }
    nmiPending := false
    resetLine := false
    resetPending := false
    schedule :=
      if s.schedule.isEmpty && !s.irqLine then s.schedule
      else { events := [], takeIrq := false } :: s.schedule }

end Sys2Proof.Machine
end

