-- ==== Sys2Proof/Machine/Run.lean ====
section
/-! DEFINITION. What happens at an instruction boundary, in the order of priority RESET, NMI, IRQ,
next instruction (R10, R315, R316, R317). -/

namespace Sys2Proof.Machine

/-- Fetch and execute the next instruction; a byte that is no opcode of the part is refused (R10, R92). -/
def State.execute (s : State) : Result :=
  match s.fetch with
  | .instr i t => exec i t
  | .undefined op t => t.refuse (.undefinedOpcode op)

/-- IRQ is asserted, enabled, and chosen at this boundary (R313, R316). -/
def State.irqTaken (s : State) (choice : Bool) : Bool := s.irqLine && !s.p.i && choice

/-- The boundary, its pin changes already seen: an asserted RESET holds the processor, a released
one runs the reset sequence, a pending NMI comes before IRQ, and IRQ before the next instruction. The three are
taken whether or not the part admits tier G, in which R3 counts their sequences (DESIGN CHOICE, log 30). -/
def State.atBoundary (s : State) (choice : Bool) : Result :=
  if s.resetLine then .next s
  else if s.resetPending then .next s.resetSequence
  else if s.nmiPending then .next s.takeNmi
  else if s.irqTaken choice then .next s.takeIrq
  else s.execute

/-- A step with an access that the platform rejects is stuck and has no effect (R9, R59; log 22). -/
def rejectUnmapped : Result → Result
  | .next s => s.finish
  | .fault r => .fault r
  | .refused r => .refused r

end Sys2Proof.Machine
end

