-- ==== Sys2Proof/Machine/Step.lean ====
section
/-! DEFINITION. One step of the machine, and how an instruction is placed where a step fetches. -/

namespace Sys2Proof.Machine

/-- One step: the boundary's pin changes are seen, and then one event is taken or one instruction
executed (R10, R316). -/
def step (s : State) : Host.Outcome State Fault Refusal :=
  rejectUnmapped (s.sample.atBoundary s.boundary.takeIrq)

/-- The state with a table word's instruction stored where the next step fetches it (log 5). -/
def State.withFetchWord (s : State) (nbits w : Nat) : State := s.placeAtPc (tableBytes nbits w)

end Sys2Proof.Machine
end

