-- ==== Sys2Proof/Machine/Timing.lean ====
section
/-! DEFINITION. Cycle counts (R360 to R364). No meaning depends on them (R360); with the discarded
accesses on, they are the length of a step's history (R72, log 27). -/

namespace Sys2Proof.Machine

/-- The base cycle count of an instruction (R361, R362). -/
def baseCycles : Instr → Nat
  | .adcImm _ | .aslAcc | .bcc _ | .bcs _ | .beq _ | .bmi _ | .bne _ | .bpl _ | .bvc _ | .bvs _
  | .cmpImm _ | .cpxImm _ | .cpyImm _ | .lsrAcc | .rolAcc | .rorAcc | .sbcImm _ | .andImm _ | .clc
  | .cld | .cli | .clv | .dex | .dey | .eorImm _ | .inx | .iny | .ldaImm _ | .ldxImm _ | .ldyImm _
  | .nop | .oraImm _ | .sec | .sed | .sei | .tax | .tay | .tsx | .txa | .txs | .tya => 2
  | .adcZp _ | .bitZp _ | .cmpZp _ | .cpxZp _ | .cpyZp _ | .jmpAbs _ | .sbcZp _ | .andZp _
  | .eorZp _ | .ldaZp _ | .ldxZp _ | .ldyZp _ | .oraZp _ | .pha | .php | .staZp _ | .stxZp _
  | .styZp _ => 3
  | .adcZpx _ | .adcAbs _ | .adcAbx _ | .adcAby _ | .bitAbs _ | .cmpZpx _ | .cmpAbs _ | .cmpAbx _
  | .cmpAby _ | .cpxAbs _ | .cpyAbs _ | .sbcZpx _ | .sbcAbs _ | .sbcAbx _ | .sbcAby _ | .andZpx _
  | .andAbs _ | .andAbx _ | .andAby _ | .eorZpx _ | .eorAbs _ | .eorAbx _ | .eorAby _ | .ldaZpx _
  | .ldaAbs _ | .ldaAbx _ | .ldaAby _ | .ldxZpy _ | .ldxAbs _ | .ldxAby _ | .ldyZpx _ | .ldyAbs _
  | .ldyAbx _ | .oraZpx _ | .oraAbs _ | .oraAbx _ | .oraAby _ | .pla | .plp | .staZpx _ | .staAbs _
  | .stxZpy _ | .stxAbs _ | .styZpx _ | .styAbs _ => 4
  | .adcIzy _ | .aslZp _ | .cmpIzy _ | .jmpInd _ | .lsrZp _ | .rolZp _ | .rorZp _ | .sbcIzy _
  | .andIzy _ | .decZp _ | .eorIzy _ | .incZp _ | .ldaIzy _ | .oraIzy _ | .staAbx _ | .staAby _ => 5
  | .adcIzx _ | .aslZpx _ | .aslAbs _ | .cmpIzx _ | .jsr _ | .lsrZpx _ | .lsrAbs _ | .rolZpx _
  | .rolAbs _ | .rorZpx _ | .rorAbs _ | .rti | .rts | .sbcIzx _ | .andIzx _ | .decZpx _ | .decAbs _
  | .eorIzx _ | .incZpx _ | .incAbs _ | .ldaIzx _ | .oraIzx _ | .staIzx _ | .staIzy _ => 6
  | .aslAbx _ | .lsrAbx _ | .rolAbx _ | .rorAbx _ | .brk | .decAbx _ | .incAbx _ => 7

/-- The mode whose index addition can cost a read instruction a cycle, `+p` (R363). -/
def pageMode : Instr → Option Mode
  | .adcAbx oper | .cmpAbx oper | .sbcAbx oper | .andAbx oper | .eorAbx oper | .ldaAbx oper
  | .ldyAbx oper | .oraAbx oper => some (.abx oper)
  | .adcAby oper | .cmpAby oper | .sbcAby oper | .andAby oper | .eorAby oper | .ldaAby oper
  | .ldxAby oper | .oraAby oper => some (.aby oper)
  | .adcIzy oper | .cmpIzy oper | .sbcIzy oper | .andIzy oper | .eorIzy oper | .ldaIzy oper
  | .oraIzy oper => some (.izy oper)
  | _ => none

/-- The cycles of a branch beyond two, `+b`: none when it is not taken, one to the same page as the
next instruction, two to another page (R200, R364). -/
def branchCycles (taken : Bool) (oper : Byte) (s : State) : Nat :=
  let pcn := s.pc + 2
  if taken then (if hiByte (branchTarget pcn oper) = hiByte pcn then 1 else 2) else 0

/-- The cycles of an instruction beyond its base count, in the state its meaning runs in (R363, R364). -/
def extraCycles (i : Instr) (s : State) : Nat :=
  match i with
  | .bcc oper => branchCycles (!s.p.c) oper s
  | .bcs oper => branchCycles s.p.c oper s
  | .beq oper => branchCycles s.p.z oper s
  | .bmi oper => branchCycles s.p.n oper s
  | .bne oper => branchCycles (!s.p.z) oper s
  | .bpl oper => branchCycles (!s.p.n) oper s
  | .bvc oper => branchCycles (!s.p.v) oper s
  | .bvs oper => branchCycles s.p.v oper s
  | i =>
    match pageMode i with
    | some m => if (m.resolve .read (s.advance m.length)).crossed then 1 else 0
    | none => 0

/-- The cycle count of an instruction in the state its meaning runs in (R361 to R364). -/
def cycles (i : Instr) (s : State) : Nat := baseCycles i + extraCycles i s

/-- The cycles of an interrupt entry and of the reset sequence (R362). -/
def entryCycles : Nat := 7

end Sys2Proof.Machine
end

