-- ==== Sys2Proof/Safety.lean ====
section
/-! DEFINITION. The terms claims are stated in: which step fetches an instruction, the invariant, a
safe step and a safe run; what it is for an instruction to complete; what an instruction stores and
which accesses it makes; and the opcode table's forms, mnemonic by mnemonic. -/

namespace Sys2Proof.Machine

/-! ## Steps -/

/-- The next step fetches and executes an instruction: no RESET, no NMI, no IRQ is taken at its boundary (R316, R317). -/
def State.fetchesNext (s : State) : Bool :=
  !s.sample.resetLine && !s.sample.resetPending && !s.sample.nmiPending && !s.sample.irqTaken s.boundary.takeIrq

/-- Memory is in canonical form, and a held RESET has no sequence due. -/
def State.inv (s : State) : Bool := s.mem.wf && !(s.resetLine && s.resetPending)

/-- The step neither faults nor refuses. -/
def SafeStep (s : State) : Prop := ∃ t, step s = .next t

/-- `n` steps neither fault nor refuse. -/
def SafeRun (n : Nat) (s : State) : Prop := ∃ t, Sys2Proof.core.run n s = .next t

/-! ## Operands -/

/-- The address is RAM or ROM: memory answers a read of it (R57). -/
def State.answers (s : State) (a : Word) : Bool := backed (s.kindAt a)

/-- `v` is what a read of the address delivers: memory's byte where memory answers, open elsewhere (R57). -/
def State.Delivers (s : State) (a : Word) (v : Byte) : Prop := s.answers a = true → v = s.byteAt a

/-- `M`, the operand a read instruction finds in the state its meaning runs in (R110). -/
def State.operand (s : State) (o : Operand) : Byte := (o.fetch (s.advance o.length)).1

/-- The address an instruction in the mode acts on (R110). -/
def State.target (s : State) (m : Mode) : Word := (m.resolve .write (s.advance m.length)).ea

/-- The byte a read-modify-write instruction reads (R110, R170). -/
def State.modified (s : State) (m : Mode) : Byte :=
  (m.resolve .write (s.advance m.length)).state.peek (s.target m)

/-- The index addition of the operand's mode carries out of the low byte (R126). -/
def State.crosses (s : State) (o : Operand) : Bool :=
  match o with
  | .imm _ => false
  | .mem m => (m.resolve .read (s.advance m.length)).crossed

/-! ## Completing -/

/-- `pcn`, the address of the next instruction in sequence (R9, R25). -/
def State.pcn (s : State) (i : Instr) : Word := s.pc + BitVec.ofNat 16 i.length

/-- The instruction completes in `u`, but for the history and the count of free values. -/
def Completes (i : Instr) (s u : State) : Prop :=
  ∃ t, exec i s = .next t ∧ t = { u with bus := t.bus, draws := t.draws }

/-- The byte at an address after the writes, in order: RAM takes them, nothing else does (R58). -/
def State.stored (s : State) (writes : List (Word × Byte)) (there : Word) : Byte :=
  writes.foldl (fun old w => if w.1 = there ∧ s.kindAt there = .ram then w.2 else old) (s.byteAt there)

/-- Every byte of `t`'s memory is that of `s` after the writes, but for a byte written at a device's
address, which R58 leaves to the platform. That such a write reaches nothing else is log 10. -/
def Stored (writes : List (Word × Byte)) (s t : State) : Prop :=
  ∀ there : Word, (∀ id v, s.kindAt there = .device id → (there, v) ∉ writes) → t.byteAt there = s.stored writes there

/-- The instruction completes in `u`, but for memory, which is as the writes leave it, the history
and the count of free values. -/
def CompletesStoring (i : Instr) (s u : State) (writes : List (Word × Byte)) : Prop :=
  ∃ t, exec i s = .next t ∧ t = { u with mem := t.mem, bus := t.bus, draws := t.draws } ∧ Stored writes s t

/-! ## Accesses -/

/-- What an access does to which address. -/
inductive Touch where
  | r (addr : Word)
  | w (addr : Word)
  deriving DecidableEq, Repr

/-- An access without its value. -/
def BusEvent.touch : BusEvent → Touch
  | .read addr _ => .r addr
  | .write addr _ => .w addr

/-- The history without its values (R124, R125). -/
def State.touches (s : State) : List Touch := s.bus.map BusEvent.touch

/-- A discarded access, which is made only where discarded accesses are performed (R60, R61, D13). -/
def State.discarded (s : State) (e : Touch) : List Touch := if s.performsDummies then [e] else []

/-- The discarded read of an index addition, at the address whose high byte is not yet corrected: a
read instruction makes it when the addition carries, another always (R124, R125). -/
def State.indexTouches (s : State) (k : Access) (base : Word) (index : Byte) : List Touch :=
  if 256 ≤ (loByte base).toNat + index.toNat ∨ k = .write then
    s.discarded (.r (hiLo (hiByte base) (loByte base + index)))
  else []

/-- The accesses of a mode between the instruction's bytes and its data, row by row of R124 and R125. -/
def State.modeTouches (s : State) (k : Access) : Mode → List Touch
  | .zp _ => []
  | .zpx oper => s.discarded (.r (zeroPage oper))
  | .zpy oper => s.discarded (.r (zeroPage oper))
  | .abs _ => []
  | .abx oper => s.indexTouches k oper s.x
  | .aby oper => s.indexTouches k oper s.y
  | .izx oper =>
    s.discarded (.r (zeroPage oper)) ++ [.r (zeroPage (oper + s.x)), .r (zeroPage (oper + s.x + 1))]
  | .izy oper =>
    [.r (zeroPage oper), .r (zeroPage (oper + 1))] ++ s.indexTouches k (s.zeroPagePointer oper).1 s.y

/-- The instruction completes, and the accesses of its meaning are these. -/
def Touches (i : Instr) (s : State) (list : List Touch) : Prop :=
  ∃ t, exec i s = .next t ∧ t.touches = s.touches ++ list

/-! ## The forms of the opcode table -/

/-- One row of the table with its operand bytes: the instruction, where its operand is, its opcode
byte and its base cycle count. -/
structure Form (α : Type) where
  instr : Instr
  place : α
  opcode : Byte
  base : Nat
  deriving DecidableEq, Repr

/-- The bytes after the opcode (R82). -/
def Mode.bytes : Mode → List Byte
  | .zp oper => [oper]
  | .zpx oper => [oper]
  | .zpy oper => [oper]
  | .abs oper => [loByte oper, hiByte oper]
  | .abx oper => [loByte oper, hiByte oper]
  | .aby oper => [loByte oper, hiByte oper]
  | .izx oper => [oper]
  | .izy oper => [oper]

/-- The bytes after the opcode (R82). -/
def Operand.bytes : Operand → List Byte
  | .imm oper => [oper]
  | .mem m => m.bytes

/-- The form's bytes, and its cycles in every state: one more than the base count when the index
addition crosses a page (R363). -/
def Form.readListed (f : Form Operand) : Prop :=
  encode f.instr = f.opcode :: f.place.bytes ∧ ∀ s, cycles f.instr s = f.base + bit (s.crosses f.place)

/-- The form's bytes, and its cycles, the same in every state (R363). -/
def Form.listed (f : Form Mode) : Prop :=
  encode f.instr = f.opcode :: f.place.bytes ∧ ∀ s, cycles f.instr s = f.base

/-- The bytes of an instruction, and its cycles, the same in every state. -/
def Listed (i : Instr) (bytes : List Byte) (base : Nat) : Prop := encode i = bytes ∧ ∀ s, cycles i s = base

/-- The forms of ADC (R141). -/
def adcForms (b : Byte) (w : Word) : List (Form Operand) := [
  ⟨.adcImm b, .imm b, 0x69#8, 2⟩,
  ⟨.adcZp b, .mem (.zp b), 0x65#8, 3⟩,
  ⟨.adcZpx b, .mem (.zpx b), 0x75#8, 4⟩,
  ⟨.adcAbs w, .mem (.abs w), 0x6D#8, 4⟩,
  ⟨.adcAbx w, .mem (.abx w), 0x7D#8, 4⟩,
  ⟨.adcAby w, .mem (.aby w), 0x79#8, 4⟩,
  ⟨.adcIzx b, .mem (.izx b), 0x61#8, 6⟩,
  ⟨.adcIzy b, .mem (.izy b), 0x71#8, 5⟩]

/-- The forms of SBC (R143). -/
def sbcForms (b : Byte) (w : Word) : List (Form Operand) := [
  ⟨.sbcImm b, .imm b, 0xE9#8, 2⟩,
  ⟨.sbcZp b, .mem (.zp b), 0xE5#8, 3⟩,
  ⟨.sbcZpx b, .mem (.zpx b), 0xF5#8, 4⟩,
  ⟨.sbcAbs w, .mem (.abs w), 0xED#8, 4⟩,
  ⟨.sbcAbx w, .mem (.abx w), 0xFD#8, 4⟩,
  ⟨.sbcAby w, .mem (.aby w), 0xF9#8, 4⟩,
  ⟨.sbcIzx b, .mem (.izx b), 0xE1#8, 6⟩,
  ⟨.sbcIzy b, .mem (.izy b), 0xF1#8, 5⟩]

/-- The forms of CMP (R145). -/
def cmpForms (b : Byte) (w : Word) : List (Form Operand) := [
  ⟨.cmpImm b, .imm b, 0xC9#8, 2⟩,
  ⟨.cmpZp b, .mem (.zp b), 0xC5#8, 3⟩,
  ⟨.cmpZpx b, .mem (.zpx b), 0xD5#8, 4⟩,
  ⟨.cmpAbs w, .mem (.abs w), 0xCD#8, 4⟩,
  ⟨.cmpAbx w, .mem (.abx w), 0xDD#8, 4⟩,
  ⟨.cmpAby w, .mem (.aby w), 0xD9#8, 4⟩,
  ⟨.cmpIzx b, .mem (.izx b), 0xC1#8, 6⟩,
  ⟨.cmpIzy b, .mem (.izy b), 0xD1#8, 5⟩]

/-- The forms of CPX (R146). -/
def cpxForms (b : Byte) (w : Word) : List (Form Operand) := [
  ⟨.cpxImm b, .imm b, 0xE0#8, 2⟩,
  ⟨.cpxZp b, .mem (.zp b), 0xE4#8, 3⟩,
  ⟨.cpxAbs w, .mem (.abs w), 0xEC#8, 4⟩]

/-- The forms of CPY (R147). -/
def cpyForms (b : Byte) (w : Word) : List (Form Operand) := [
  ⟨.cpyImm b, .imm b, 0xC0#8, 2⟩,
  ⟨.cpyZp b, .mem (.zp b), 0xC4#8, 3⟩,
  ⟨.cpyAbs w, .mem (.abs w), 0xCC#8, 4⟩]

/-- The forms of BIT (R148). -/
def bitForms (b : Byte) (w : Word) : List (Form Operand) := [
  ⟨.bitZp b, .mem (.zp b), 0x24#8, 3⟩,
  ⟨.bitAbs w, .mem (.abs w), 0x2C#8, 4⟩]

/-- The forms of AND (R261). -/
def andForms (b : Byte) (w : Word) : List (Form Operand) := [
  ⟨.andImm b, .imm b, 0x29#8, 2⟩,
  ⟨.andZp b, .mem (.zp b), 0x25#8, 3⟩,
  ⟨.andZpx b, .mem (.zpx b), 0x35#8, 4⟩,
  ⟨.andAbs w, .mem (.abs w), 0x2D#8, 4⟩,
  ⟨.andAbx w, .mem (.abx w), 0x3D#8, 4⟩,
  ⟨.andAby w, .mem (.aby w), 0x39#8, 4⟩,
  ⟨.andIzx b, .mem (.izx b), 0x21#8, 6⟩,
  ⟨.andIzy b, .mem (.izy b), 0x31#8, 5⟩]

/-- The forms of EOR (R262). -/
def eorForms (b : Byte) (w : Word) : List (Form Operand) := [
  ⟨.eorImm b, .imm b, 0x49#8, 2⟩,
  ⟨.eorZp b, .mem (.zp b), 0x45#8, 3⟩,
  ⟨.eorZpx b, .mem (.zpx b), 0x55#8, 4⟩,
  ⟨.eorAbs w, .mem (.abs w), 0x4D#8, 4⟩,
  ⟨.eorAbx w, .mem (.abx w), 0x5D#8, 4⟩,
  ⟨.eorAby w, .mem (.aby w), 0x59#8, 4⟩,
  ⟨.eorIzx b, .mem (.izx b), 0x41#8, 6⟩,
  ⟨.eorIzy b, .mem (.izy b), 0x51#8, 5⟩]

/-- The forms of ORA (R263). -/
def oraForms (b : Byte) (w : Word) : List (Form Operand) := [
  ⟨.oraImm b, .imm b, 0x09#8, 2⟩,
  ⟨.oraZp b, .mem (.zp b), 0x05#8, 3⟩,
  ⟨.oraZpx b, .mem (.zpx b), 0x15#8, 4⟩,
  ⟨.oraAbs w, .mem (.abs w), 0x0D#8, 4⟩,
  ⟨.oraAbx w, .mem (.abx w), 0x1D#8, 4⟩,
  ⟨.oraAby w, .mem (.aby w), 0x19#8, 4⟩,
  ⟨.oraIzx b, .mem (.izx b), 0x01#8, 6⟩,
  ⟨.oraIzy b, .mem (.izy b), 0x11#8, 5⟩]

/-- The forms of LDA (R231). -/
def ldaForms (b : Byte) (w : Word) : List (Form Operand) := [
  ⟨.ldaImm b, .imm b, 0xA9#8, 2⟩,
  ⟨.ldaZp b, .mem (.zp b), 0xA5#8, 3⟩,
  ⟨.ldaZpx b, .mem (.zpx b), 0xB5#8, 4⟩,
  ⟨.ldaAbs w, .mem (.abs w), 0xAD#8, 4⟩,
  ⟨.ldaAbx w, .mem (.abx w), 0xBD#8, 4⟩,
  ⟨.ldaAby w, .mem (.aby w), 0xB9#8, 4⟩,
  ⟨.ldaIzx b, .mem (.izx b), 0xA1#8, 6⟩,
  ⟨.ldaIzy b, .mem (.izy b), 0xB1#8, 5⟩]

/-- The forms of LDX (R232). -/
def ldxForms (b : Byte) (w : Word) : List (Form Operand) := [
  ⟨.ldxImm b, .imm b, 0xA2#8, 2⟩,
  ⟨.ldxZp b, .mem (.zp b), 0xA6#8, 3⟩,
  ⟨.ldxZpy b, .mem (.zpy b), 0xB6#8, 4⟩,
  ⟨.ldxAbs w, .mem (.abs w), 0xAE#8, 4⟩,
  ⟨.ldxAby w, .mem (.aby w), 0xBE#8, 4⟩]

/-- The forms of LDY (R233). -/
def ldyForms (b : Byte) (w : Word) : List (Form Operand) := [
  ⟨.ldyImm b, .imm b, 0xA0#8, 2⟩,
  ⟨.ldyZp b, .mem (.zp b), 0xA4#8, 3⟩,
  ⟨.ldyZpx b, .mem (.zpx b), 0xB4#8, 4⟩,
  ⟨.ldyAbs w, .mem (.abs w), 0xAC#8, 4⟩,
  ⟨.ldyAbx w, .mem (.abx w), 0xBC#8, 4⟩]

/-- The memory forms of STA (R234). -/
def staForms (b : Byte) (w : Word) : List (Form Mode) := [
  ⟨.staZp b, .zp b, 0x85#8, 3⟩,
  ⟨.staZpx b, .zpx b, 0x95#8, 4⟩,
  ⟨.staAbs w, .abs w, 0x8D#8, 4⟩,
  ⟨.staAbx w, .abx w, 0x9D#8, 5⟩,
  ⟨.staAby w, .aby w, 0x99#8, 5⟩,
  ⟨.staIzx b, .izx b, 0x81#8, 6⟩,
  ⟨.staIzy b, .izy b, 0x91#8, 6⟩]

/-- The memory forms of STX (R235). -/
def stxForms (b : Byte) (w : Word) : List (Form Mode) := [
  ⟨.stxZp b, .zp b, 0x86#8, 3⟩,
  ⟨.stxZpy b, .zpy b, 0x96#8, 4⟩,
  ⟨.stxAbs w, .abs w, 0x8E#8, 4⟩]

/-- The memory forms of STY (R236). -/
def styForms (b : Byte) (w : Word) : List (Form Mode) := [
  ⟨.styZp b, .zp b, 0x84#8, 3⟩,
  ⟨.styZpx b, .zpx b, 0x94#8, 4⟩,
  ⟨.styAbs w, .abs w, 0x8C#8, 4⟩]

/-- The memory forms of ASL (R171). -/
def aslForms (b : Byte) (w : Word) : List (Form Mode) := [
  ⟨.aslZp b, .zp b, 0x06#8, 5⟩,
  ⟨.aslZpx b, .zpx b, 0x16#8, 6⟩,
  ⟨.aslAbs w, .abs w, 0x0E#8, 6⟩,
  ⟨.aslAbx w, .abx w, 0x1E#8, 7⟩]

/-- The memory forms of LSR (R172). -/
def lsrForms (b : Byte) (w : Word) : List (Form Mode) := [
  ⟨.lsrZp b, .zp b, 0x46#8, 5⟩,
  ⟨.lsrZpx b, .zpx b, 0x56#8, 6⟩,
  ⟨.lsrAbs w, .abs w, 0x4E#8, 6⟩,
  ⟨.lsrAbx w, .abx w, 0x5E#8, 7⟩]

/-- The memory forms of ROL (R173). -/
def rolForms (b : Byte) (w : Word) : List (Form Mode) := [
  ⟨.rolZp b, .zp b, 0x26#8, 5⟩,
  ⟨.rolZpx b, .zpx b, 0x36#8, 6⟩,
  ⟨.rolAbs w, .abs w, 0x2E#8, 6⟩,
  ⟨.rolAbx w, .abx w, 0x3E#8, 7⟩]

/-- The memory forms of ROR (R174). -/
def rorForms (b : Byte) (w : Word) : List (Form Mode) := [
  ⟨.rorZp b, .zp b, 0x66#8, 5⟩,
  ⟨.rorZpx b, .zpx b, 0x76#8, 6⟩,
  ⟨.rorAbs w, .abs w, 0x6E#8, 6⟩,
  ⟨.rorAbx w, .abx w, 0x7E#8, 7⟩]

/-- The memory forms of INC (R267). -/
def incForms (b : Byte) (w : Word) : List (Form Mode) := [
  ⟨.incZp b, .zp b, 0xE6#8, 5⟩,
  ⟨.incZpx b, .zpx b, 0xF6#8, 6⟩,
  ⟨.incAbs w, .abs w, 0xEE#8, 6⟩,
  ⟨.incAbx w, .abx w, 0xFE#8, 7⟩]

/-- The memory forms of DEC (R264). -/
def decForms (b : Byte) (w : Word) : List (Form Mode) := [
  ⟨.decZp b, .zp b, 0xC6#8, 5⟩,
  ⟨.decZpx b, .zpx b, 0xD6#8, 6⟩,
  ⟨.decAbs w, .abs w, 0xCE#8, 6⟩,
  ⟨.decAbx w, .abx w, 0xDE#8, 7⟩]

end Sys2Proof.Machine
end

