-- ==== Sys2Proof/Certificates/Slice0/Obligations.lean ====
section
/-! DEFINITION. The statements for the provers, in the order of the spec's files. A docstring names
the rule a statement formalises and, where a clause rests on a choice of the model, its log entry. -/

section Statements

open Sys2Proof Sys2Proof.Machine

/-! ## State -/

/-- PackP and UnpackP: N V 1 b D I Z C from bit 7 down, bits 5 and 4 ignored on the way back, and one
undoes the other (R34, R35). -/
def Obligations.StatusImagePacksAndUnpacks : Prop :=
  (∀ (p : Flags) (b : Bool), (p.pack b).toNat =
    128 * bit p.n + 64 * bit p.v + 32 + 16 * bit b + 8 * bit p.d + 4 * bit p.i + 2 * bit p.z + bit p.c) ∧
  (∀ v : Byte, Flags.unpack v = {
    n := v.getLsbD 7, v := v.getLsbD 6, d := v.getLsbD 3, i := v.getLsbD 2, z := v.getLsbD 1, c := v.getLsbD 0 }) ∧
  (∀ v w : Byte, v &&& 0xCF#8 = w &&& 0xCF#8 → Flags.unpack v = Flags.unpack w) ∧
  (∀ (p : Flags) (b : Bool), Flags.unpack (p.pack b) = p)

/-- SetNZ writes N and Z and no other flag, never both with 1; BIT and a pulled P can leave both 1 (R31). -/
def Obligations.SetNzWritesSignAndZero : Prop :=
  (∀ (p : Flags) (v : Byte),
    p.setNZ v = { p with n := decide (128 ≤ v.toNat), z := decide (v.toNat = 0) } ∧
    ¬((p.setNZ v).n = true ∧ (p.setNZ v).z = true)) ∧
  (∀ p : Flags, (p.bitTest 0x00#8 0x80#8).n = true ∧ (p.bitTest 0x00#8 0x80#8).z = true) ∧
  (∃ v : Byte, (Flags.unpack v).n = true ∧ (Flags.unpack v).z = true)

/-- Which instructions may change which flag: every other instruction leaves it as it was (R28 to
R30, R32, R33, R36). -/
def Obligations.FlagsChangeOnlyByTheirWriters : Prop :=
  ∀ (i : Instr) (s t : State), exec i s = .next t →
    (i.mnemonic ∉ [.adc, .sbc, .bit, .clv, .plp, .rti] → t.p.v = s.p.v) ∧
    (i.mnemonic ∉ [.sed, .cld, .plp, .rti] → t.p.d = s.p.d) ∧
    (i.mnemonic ∉ [.sei, .cli, .brk, .plp, .rti] → t.p.i = s.p.i) ∧
    (i.mnemonic ∉ [.adc, .sbc, .cmp, .cpx, .cpy, .asl, .lsr, .rol, .ror, .clc, .sec, .plp, .rti] → t.p.c = s.p.c) ∧
    (i.mnemonic ∉ [.adc, .sbc, .cmp, .cpx, .cpy, .bit, .asl, .lsr, .rol, .ror, .and, .eor, .ora, .inc, .inx, .iny,
        .dec, .dex, .dey, .lda, .ldx, .ldy, .pla, .tax, .tay, .tsx, .txa, .tya, .plp, .rti] →
      t.p.n = s.p.n ∧ t.p.z = s.p.z)

/-- Which instructions may change which register and memory, and that none changes an input's level,
the NMI latch, the parameters or the environment's schedule (R21 to R25, R56; that State holds the
parameters and the schedule is the model's, log 6 and log 14). -/
def Obligations.StateChangesOnlyByItsWriters : Prop :=
  ∀ (i : Instr) (s t : State), exec i s = .next t →
    (i.mnemonic ∉ [.adc, .sbc, .asl, .lsr, .rol, .ror, .and, .eor, .ora, .lda, .pla, .txa, .tya] → t.a = s.a) ∧
    (i.mnemonic ∈ [.asl, .lsr, .rol, .ror] → i.mode ≠ .acc → t.a = s.a) ∧
    (i.mnemonic ∉ [.ldx, .tax, .tsx, .inx, .dex] → t.x = s.x) ∧
    (i.mnemonic ∉ [.ldy, .tay, .iny, .dey] → t.y = s.y) ∧
    (i.mnemonic ∉ [.jsr, .rts, .rti, .pha, .php, .pla, .plp, .brk, .txs] → t.sp = s.sp) ∧
    (i.mode ≠ .rel → i.mnemonic ∉ [.jmp, .jsr, .rts, .rti, .brk] → t.pc = s.pcn i) ∧
    (i.mnemonic ∉ [.sta, .stx, .sty, .asl, .lsr, .rol, .ror, .inc, .dec, .jsr, .pha, .php, .brk] ∨ i.mode = .acc →
      t.mem = s.mem) ∧
    t.nmiPending = s.nmiPending ∧ t.irqLine = s.irqLine ∧ t.nmiLine = s.nmiLine ∧ t.resetLine = s.resetLine ∧
    t.resetPending = s.resetPending ∧ t.schedule = s.schedule ∧ t.params = s.params

/-- What the spec says reset leaves: I is 1, no NMI is pending, and PC is the word at FFFC, low byte
first. It says nothing of the fields whose values at reset are the model's (log 1, log 2, log 3,
log 25); that the word at FFFC is the one an empty memory reads as is log 4. -/
def Obligations.ResetSetsMaskAndVector : Prop :=
  State.reset.p.i = true ∧ State.reset.nmiPending = false ∧
    State.reset.pc = hiLo (State.reset.byteAt 0xFFFD#16) (State.reset.byteAt 0xFFFC#16)

/-- The invariant holds right after reset. The invariant is the model's: the canonical form of its
memory, and its latch for a released RESET (log 17). -/
def Obligations.ResetMeetsInvariant : Prop := State.reset.inv = true

/-- Every step keeps the invariant, from every state that meets it: memory stays in canonical form,
and while RESET is held no reset sequence is due (the model's invariant, log 17). -/
def Obligations.StepKeepsInvariant : Prop := ∀ s t : State, s.inv = true → step s = .next t → t.inv = true

/-- No step changes the parameters, and every step takes one boundary off the schedule (the model's
fields, log 6 and log 14; the parameters are those of R4). -/
def Obligations.StepKeepsParameters : Prop :=
  ∀ s t : State, step s = .next t → t.params = s.params ∧ t.schedule = s.schedule.tail

/-! ## Memory -/

/-- No step changes a byte outside RAM, whatever it executes or takes (R58; that a device's write
leaves Mem alone is the model's, log 10). -/
def Obligations.OnlyRamBytesChange : Prop :=
  ∀ s t : State, step s = .next t → ∀ a : Word, s.kindAt a ≠ .ram → t.byteAt a = s.byteAt a

/-- MemRead returns memory's byte in RAM and ROM and a draw at a device's or an unmapped address, and
is recorded; MemWrite sets the byte in RAM, changes nothing in ROM and at an unmapped address, and is
recorded (R57, R58). That a read of a device has no side effect, and that a write to one reaches
nothing but Mem and the history, is the model's choice (log 10): the rules leave both to the platform. -/
def Obligations.AccessesFollowTheMap : Prop :=
  (∀ (s : State) (a : Word),
    (s.kindAt a = .ram ∨ s.kindAt a = .rom → (s.memRead a).1 = s.byteAt a) ∧
    (s.kindAt a = .unmapped ∨ (∃ id, s.kindAt a = .device id) → ∃ k, (s.memRead a).1 = Config.freeByte k) ∧
    (s.memRead a).2 = { s with bus := s.bus ++ [.read a (s.memRead a).1], draws := (s.memRead a).2.draws }) ∧
  (∀ (s : State) (a : Word) (v : Byte),
    s.memWrite a v = { s with bus := s.bus ++ [.write a v], mem := (s.memWrite a v).mem } ∧
    (s.kindAt a = .ram → ∀ there : Word, (s.memWrite a v).byteAt there = if there = a then v else s.byteAt there) ∧
    (s.kindAt a = .rom ∨ s.kindAt a = .unmapped → (s.memWrite a v).mem = s.mem))

/-- Push writes at 01:S and lowers S, Pull raises S and reads at 01:S, both modulo 256 and inside page
one; a 16-bit push is two, high byte first; a pull leaves memory alone, and a pull right after a push
gives the byte back and restores S when 01:S is RAM (R62, R63). What a push leaves at a device's
address is left open, and that it reaches nothing else is the model's (log 10). -/
def Obligations.PushAndPull : Prop :=
  ∀ (s : State) (v : Byte),
    (s.push v).sp.toNat = (s.sp.toNat + 255) % 256 ∧
    (s.push v).bus = s.bus ++ [.write (hiLo 0x01#8 s.sp) v] ∧
    Stored [(hiLo 0x01#8 s.sp, v)] s (s.push v) ∧
    (∀ (w : Word) (b : Bool), (s.entered w b).bus = s.bus ++ [.write (hiLo 0x01#8 s.sp) (hiByte w),
      .write (hiLo 0x01#8 (s.sp - 1)) (loByte w), .write (hiLo 0x01#8 (s.sp - 2)) (s.p.pack b)]) ∧
    s.pull.2.sp.toNat = (s.sp.toNat + 1) % 256 ∧
    s.pull.2.bus = s.bus ++ [.read (hiLo 0x01#8 (s.sp + 1)) s.pull.1] ∧
    s.Delivers (hiLo 0x01#8 (s.sp + 1)) s.pull.1 ∧ s.pull.2.mem = s.mem ∧
    (s.kindAt (hiLo 0x01#8 s.sp) = .ram → (s.push v).pull.1 = v ∧ (s.push v).pull.2.sp = s.sp)

/-- A step never faults unless the platform rejects unmapped accesses; then it is stuck only for an
unmapped address, and a step that goes on made no access to one (R59, R310; that the whole step is
then without effect is the model's reading, log 22). -/
def Obligations.StuckOnlyOnUnmappedAccess : Prop :=
  (∀ (s : State) (r : Fault), s.params.unmappedAccess = .anyValue → step s ≠ .fault r) ∧
  (∀ (s : State) (a : Word), step s = .fault (.stuck a) → s.kindAt a = .unmapped) ∧
  (∀ (s t : State) (a : Word), s.params.unmappedAccess = .stuck → step s = .next t →
    (.r a ∈ t.touches ∨ .w a ∈ t.touches) → s.kindAt a ≠ .unmapped)

/-! ## Encoding -/

/-- Decoding the bytes of an instruction, whatever follows them, gives it and what follows: every
instruction, every operand value (R80 to R82, R89, R90). -/
def Obligations.DecodeOfEncode : Prop :=
  ∀ (i : Instr) (rest : List Byte), decode (encode i ++ rest) = .ok (i, rest)

/-- Bytes that decode are the bytes of the instruction and what follows: no bit is read for nothing
(R80 to R82, R93). -/
def Obligations.EncodeOfDecode : Prop :=
  ∀ (bytes rest : List Byte) (i : Instr), decode bytes = .ok (i, rest) → bytes = encode i ++ rest

/-- 151 rows with distinct opcode bytes, 65 of tier S and 86 of tier G, 105 bytes with no row (R91). -/
def Obligations.OpcodeTableCounts : Prop :=
  opcodeTable.length = 151 ∧ (opcodeTable.map Row.opcode).Nodup ∧
    (opcodeTable.filter (fun row => row.mnemonic.tier = .s)).length = 65 ∧
    (opcodeTable.filter (fun row => row.mnemonic.tier = .g)).length = 86 ∧
    ((List.range 256).filter (fun op => (rowOf (BitVec.ofNat 8 op)).isNone)).length = 105

/-- The length of an instruction from its opcode's bits `aaabbbcc` (R84). -/
def Obligations.LengthFromOpcodeBits : Prop :=
  ∀ op : Byte, ∀ row, rowOf op = some row →
    let bbb := op.extractLsb' 2 3
    let cc := op.extractLsb' 0 2
    cc ≠ 0b11#2 ∧ row.opcode = op ∧ row.build.operandBytes + 1 = row.mode.format.length ∧
    (cc = 0b01#2 → row.mode.format.length =
      if bbb = 0b011#3 ∨ bbb = 0b110#3 ∨ bbb = 0b111#3 then 3 else 2) ∧
    (cc = 0b10#2 → row.mode.format.length =
      if bbb = 0b010#3 ∨ bbb = 0b110#3 then 1 else if bbb = 0b011#3 ∨ bbb = 0b111#3 then 3 else 2) ∧
    (cc = 0b00#2 → row.mode.format.length =
      if bbb = 0b011#3 ∨ bbb = 0b111#3 ∨ op = 0x20#8 then 3
      else if bbb = 0b010#3 ∨ bbb = 0b110#3 ∨ op = 0x00#8 ∨ op = 0x40#8 ∨ op = 0x60#8 then 1 else 2)

/-- A step whose opcode byte has no row, or a row of tier G without `admit_tier_G`, or a row of ROR
without `has_ROR`, is refused (R92, R94). The premise on the map leaves out the platform that is
asked to get stuck where the opcode byte is fetched. -/
def Obligations.UndefinedOpcodesRefused : Prop :=
  ∀ s : State, s.fetchesNext = true →
    (s.params.unmappedAccess = .stuck → s.kindAt s.pc ≠ .unmapped) →
    let op := s.sample.peek s.pc
    (rowOf op = none ∨
      ∃ row, rowOf op = some row ∧
        ((row.mnemonic.tier = .g ∧ s.params.admitTierG = false) ∨
          (row.mnemonic = .ror ∧ s.params.hasRor = false))) →
    step s = .refused (.undefinedOpcode op)

/-- Words spelled bit by bit from the table's encodings decode to the instructions they stand for, the
table's bit 0 being bit 0 of the first byte (R82, R89, R90, R99). -/
def Obligations.SpelledWordsDecode : Prop :=
  decodeTableWord 16 0b00010010_01101001 = some (.adcImm 0x12#8) ∧
  decodeTableWord 24 0b00000010_00000000_10001101 = some (.staAbs 0x0200#16) ∧
  decodeTableWord 8 0b00001010 = some .aslAcc ∧
  decodeTableWord 16 0b01010101_11010000 = some (.bne 0x55#8) ∧
  decodeTableWord 24 0b00010010_11111111_01101100 = some (.jmpInd 0x12FF#16) ∧
  decodeTableWord 16 0b00010000_10010001 = some (.staIzy 0x10#8) ∧
  decodeTableWord 16 0b00010000_10110110 = some (.ldxZpy 0x10#8) ∧
  decodeTableWord 8 0b00000000 = some .brk ∧
  decodeTableWord 8 0b00000010 = none

/-- When the bytes at PC decode to an instruction of the part and no interrupt is taken, the step is
its meaning, run in the state at the boundary whose history is the fetch of its bytes (R10, R54, R80,
R81). JSR's third byte is not in that history: its meaning reads it after its pushes (R64, log 18).
The history, and that an access a platform rejects stops the whole step, are the model's (log 13,
log 22, log 26). -/
def Obligations.StepRunsDecodedInstruction : Prop :=
  ∀ (s : State) (i : Instr) (bytes rest : List Byte), s.fetchesNext = true →
    decode bytes = .ok (i, rest) → wellFormed s.params i = true →
    (∀ k < i.length, s.answers (s.pc + BitVec.ofNat 16 k) = true ∧
      bytes[k]? = some (s.byteAt (s.pc + BitVec.ofNat 16 k))) →
    step s = rejectUnmapped (exec i { s.sample with
      bus := (List.range (if i.mnemonic = .jsr then 2 else i.length)).map (fun k =>
        .read (s.pc + BitVec.ofNat 16 k) (s.byteAt (s.pc + BitVec.ofNat 16 k))) })

/-! ## Addressing modes and histories -/

/-- The effective address of each mode, whether it crosses a page, that a mode changes no register and
no memory, and the operand it delivers (R110, R113 to R121, R126). -/
def Obligations.EffectiveAddresses : Prop :=
  (∀ (s : State) (k : Access) (b : Byte) (w : Word),
    ((Mode.zp b).resolve k s).ea = hiLo 0x00#8 b ∧
    ((Mode.zpx b).resolve k s).ea.toNat = (b.toNat + s.x.toNat) % 256 ∧
    ((Mode.zpy b).resolve k s).ea.toNat = (b.toNat + s.y.toNat) % 256 ∧
    ((Mode.abs w).resolve k s).ea = w ∧
    ((Mode.abx w).resolve k s).ea.toNat = (w.toNat + s.x.toNat) % 65536 ∧
    ((Mode.aby w).resolve k s).ea.toNat = (w.toNat + s.y.toNat) % 65536 ∧
    (∃ lo hi, ((Mode.izx b).resolve k s).ea = hiLo hi lo ∧
      s.Delivers (hiLo 0x00#8 (b + s.x)) lo ∧ s.Delivers (hiLo 0x00#8 (b + s.x + 1)) hi) ∧
    (∃ lo hi, ((Mode.izy b).resolve k s).ea.toNat = ((hiLo hi lo).toNat + s.y.toNat) % 65536 ∧
      ((Mode.izy b).resolve k s).crossed = decide (256 ≤ lo.toNat + s.y.toNat) ∧
      s.Delivers (hiLo 0x00#8 b) lo ∧ s.Delivers (hiLo 0x00#8 (b + 1)) hi) ∧
    ((Mode.abx w).resolve k s).crossed = decide (256 ≤ w.toNat % 256 + s.x.toNat) ∧
    ((Mode.aby w).resolve k s).crossed = decide (256 ≤ w.toNat % 256 + s.y.toNat) ∧
    (∀ m ∈ [Mode.zp b, .zpx b, .zpy b, .abs w, .izx b], (m.resolve k s).crossed = false)) ∧
  (∀ (s : State) (k : Access) (m : Mode),
    (m.resolve k s).state = { s with bus := (m.resolve k s).state.bus, draws := (m.resolve k s).state.draws }) ∧
  (∀ (s : State) (m : Mode),
    s.Delivers (s.target m) (s.operand (.mem m)) ∧ s.Delivers (s.target m) (s.modified m)) ∧
  (∀ (s : State) (b : Byte), s.operand (.imm b) = b)

/-- The accesses of the read modes, the one-byte instructions and the branches, in cycle order after
the instruction's own bytes, the discarded ones where they are performed (R124, R60). -/
def Obligations.ReadAccessLists : Prop :=
  (∀ (b : Byte) (w : Word),
    ∀ f ∈ ldaForms b w ++ ldxForms b w ++ ldyForms b w ++ andForms b w ++ eorForms b w ++ oraForms b w ++
        cmpForms b w ++ cpxForms b w ++ cpyForms b w ++ bitForms b w,
      ∀ s : State, Touches f.instr s (match f.place with
        | .imm _ => []
        | .mem m => s.modeTouches .read m ++ [.r (s.target m)])) ∧
  (∀ (b : Byte) (w : Word), ∀ f ∈ adcForms b w ++ sbcForms b w, ∀ s t : State, exec f.instr s = .next t →
    t.touches = s.touches ++ (match f.place with
      | .imm _ => []
      | .mem m => s.modeTouches .read m ++ [.r (s.target m)])) ∧
  (∀ i ∈ [Instr.aslAcc, .lsrAcc, .rolAcc, .rorAcc, .clc, .cld, .cli, .clv, .sec, .sed, .sei, .nop, .tax, .tay, .tsx,
      .txa, .txs, .tya, .inx, .iny, .dex, .dey],
    ∀ s : State, Touches i s (s.discarded (.r (s.pc + 1)))) ∧
  (∀ (s : State) (b : Byte),
    ∀ c ∈ [(Instr.bcc b, !s.p.c), (.bcs b, s.p.c), (.bne b, !s.p.z), (.beq b, s.p.z), (.bpl b, !s.p.n), (.bmi b, s.p.n),
        (.bvc b, !s.p.v), (.bvs b, s.p.v)],
      Touches c.1 s (
        if c.2 = false then []
        else s.discarded (.r (s.pc + 2)) ++
          (if hiByte (s.pc + 2 + sext b) = hiByte (s.pc + 2) then []
          else s.discarded (.r (hiLo (hiByte (s.pc + 2)) (loByte (s.pc + 2 + sext b)))))))

/-- The accesses of the stores and the read-modify-write instructions: an index always costs its
discarded read, and the unmodified byte is written back first where discarded accesses are performed
(R125, R61, R175). -/
def Obligations.WriteAccessLists : Prop :=
  (∀ (b : Byte) (w : Word), ∀ f ∈ staForms b w ++ stxForms b w ++ styForms b w, ∀ s : State,
    Touches f.instr s (s.modeTouches .write f.place ++ [.w (s.target f.place)])) ∧
  (∀ (b : Byte) (w : Word),
    ∀ f ∈ aslForms b w ++ lsrForms b w ++ rolForms b w ++ rorForms b w ++ incForms b w ++ decForms b w, ∀ s : State,
      Touches f.instr s (s.modeTouches .write f.place ++ [.r (s.target f.place)] ++
        s.discarded (.w (s.target f.place)) ++ [.w (s.target f.place)]))

/-- The accesses of the stack instructions, the jumps, BRK, the interrupt entries and the reset
sequence (R125); for JMP indirect, on a part with the page wrap and on one without it (R123). -/
def Obligations.StackAccessLists : Prop :=
  ∀ s : State,
    Touches .pha s (s.discarded (.r (s.pc + 1)) ++ [.w (stackAddr s.sp)]) ∧
    Touches .php s (s.discarded (.r (s.pc + 1)) ++ [.w (stackAddr s.sp)]) ∧
    Touches .pla s (s.discarded (.r (s.pc + 1)) ++ s.discarded (.r (stackAddr s.sp)) ++ [.r (stackAddr (s.sp + 1))]) ∧
    Touches .plp s (s.discarded (.r (s.pc + 1)) ++ s.discarded (.r (stackAddr s.sp)) ++ [.r (stackAddr (s.sp + 1))]) ∧
    (∀ w, Touches (.jsr w) s (s.discarded (.r (stackAddr s.sp)) ++
      [.w (stackAddr s.sp), .w (stackAddr (s.sp - 1)), .r (s.pc + 2)])) ∧
    (∃ t, exec .rts s = .next t ∧ t.touches = s.touches ++ (s.discarded (.r (s.pc + 1)) ++
      s.discarded (.r (stackAddr s.sp)) ++ [.r (stackAddr (s.sp + 1)), .r (stackAddr (s.sp + 2))] ++
      s.discarded (.r (t.pc - 1)))) ∧
    Touches .rti s (s.discarded (.r (s.pc + 1)) ++ s.discarded (.r (stackAddr s.sp)) ++
      [.r (stackAddr (s.sp + 1)), .r (stackAddr (s.sp + 2)), .r (stackAddr (s.sp + 3))]) ∧
    (∀ w, Touches (.jmpAbs w) s []) ∧
    (∀ w, Touches (.jmpInd w) s [.r w,
      .r (if s.params.jmpIndirectPageWrap = true then hiLo (hiByte w) (loByte w + 1) else w + 1)]) ∧
    Touches .brk s (s.discarded (.r (s.pc + 1)) ++ [.w (stackAddr s.sp), .w (stackAddr (s.sp - 1)),
      .w (stackAddr (s.sp - 2)), .r 0xFFFE#16, .r 0xFFFF#16]) ∧
    s.takeIrq.touches = s.touches ++ (s.discarded (.r s.pc) ++ s.discarded (.r s.pc) ++ [.w (stackAddr s.sp),
      .w (stackAddr (s.sp - 1)), .w (stackAddr (s.sp - 2)), .r 0xFFFE#16, .r 0xFFFF#16]) ∧
    s.takeNmi.touches = s.touches ++ (s.discarded (.r s.pc) ++ s.discarded (.r s.pc) ++ [.w (stackAddr s.sp),
      .w (stackAddr (s.sp - 1)), .w (stackAddr (s.sp - 2)), .r 0xFFFA#16, .r 0xFFFB#16]) ∧
    s.resetSequence.touches = s.touches ++ (s.discarded (.r s.pc) ++ s.discarded (.r s.pc) ++
      s.discarded (.r (stackAddr s.sp)) ++ s.discarded (.r (stackAddr (s.sp - 1))) ++
      s.discarded (.r (stackAddr (s.sp - 2))) ++ [.r 0xFFFC#16, .r 0xFFFD#16])

/-- With the discarded accesses performed, the history of a step is as long as its cycle count: that
of the instruction it executes, or seven for an interrupt entry or the reset sequence (R72, R362);
that a part without tier G has these two is the model's choice (log 30). -/
def Obligations.HistoryLengthIsCycleCount : Prop :=
  (∀ (s t : State) (i : Instr) (bytes rest : List Byte), s.performsDummies = true → s.fetchesNext = true →
    decode bytes = .ok (i, rest) → wellFormed s.params i = true →
    (∀ k < i.length, s.answers (s.pc + BitVec.ofNat 16 k) = true ∧
      bytes[k]? = some (s.byteAt (s.pc + BitVec.ofNat 16 k))) →
    step s = .next t → t.bus.length = cycles i s) ∧
  (∀ s t : State, s.performsDummies = true → s.fetchesNext = false → s.sample.resetLine = false →
    step s = .next t → t.bus.length = entryCycles)

/-! ## Arithmetic and compare -/

/-- ADC with D = 0, in every form: the 8-bit sum, the carry out of it, signed overflow, and nothing
else changed (R141). -/
def Obligations.AdcBinary : Prop :=
  ∀ (b : Byte) (w : Word), ∀ f ∈ adcForms b w, f.readListed ∧
    ∀ s : State, s.p.d = false →
      let m := s.operand f.place
      let sum := s.a.toNat + m.toNat + bit s.p.c
      let r := BitVec.ofNat 8 sum
      Completes f.instr s { s with
        pc := s.pcn f.instr
        a := r
        p := { s.p with
          n := r.getLsbD 7
          v := (s.a ^^^ r) &&& (m ^^^ r) &&& 0x80#8 != 0x00#8
          z := r == 0x00#8
          c := decide (256 ≤ sum) } }

/-- ADC with D = 1, in every form. On valid BCD: the decimal sum and its carry. With `decimal_flags`
at `draw`, N, V and Z are open; with `nmos`, the algorithm's, which gives the same A and C. On other
bytes: the algorithm, or a refusal (R142). The refusal's premise is that no access of the operand is
one the platform rejects (log 22). -/
def Obligations.AdcDecimal : Prop :=
  ∀ (b : Byte) (w : Word), ∀ f ∈ adcForms b w, ∀ s : State, s.p.d = true →
    let m := s.operand f.place
    let decimal := validBcd s.a = true ∧ validBcd m = true
    let n := bcd s.a + bcd m + bit s.p.c
    let al := s.a.toNat % 16 + m.toNat % 16 + bit s.p.c
    let al := if 0x0A ≤ al then (al + 0x06) % 16 + 0x10 else al
    let sum := s.a.toNat / 16 * 16 + m.toNat / 16 * 16 + al
    let low := BitVec.ofNat 8 sum
    let fixed := if 0xA0 ≤ sum then sum + 0x60 else sum
    let after : State := { s with pc := s.pcn f.instr, a := BitVec.ofNat 8 fixed }
    (decimal → toBcd (n % 100) = BitVec.ofNat 8 fixed ∧ (100 ≤ n ↔ 0x100 ≤ fixed)) ∧
    (s.params.decimalFlags = .draw → decimal ∨ s.params.decimalInvalidBcd = .nmos →
      ∃ n v z, Completes f.instr s { after with
        p := { s.p with n := n, v := v, z := z, c := decide (0x100 ≤ fixed) } }) ∧
    (s.params.decimalFlags = .nmos → decimal ∨ s.params.decimalInvalidBcd = .nmos →
      Completes f.instr s { after with
        p := { s.p with
          n := low.getLsbD 7
          v := (s.a ^^^ low) &&& (m ^^^ low) &&& 0x80#8 != 0x00#8
          z := (s.a.toNat + m.toNat + bit s.p.c) % 256 == 0
          c := decide (0x100 ≤ fixed) } }) ∧
    (¬decimal → s.params.decimalInvalidBcd = .refuse → s.params.unmappedAccess = .anyValue →
      exec f.instr s = .refused (.invalidDecimalOperand s.a m))

/-- SBC with D = 0, in every form: the 8-bit difference, the carry as the inverted borrow, signed
overflow, and nothing else changed; it is ADC of the complement (R143). -/
def Obligations.SbcBinary : Prop :=
  (∀ (b : Byte) (w : Word), ∀ f ∈ sbcForms b w, f.readListed ∧
    ∀ s : State, s.p.d = false →
      let m := s.operand f.place
      let d : Int := (s.a.toNat : Int) - m.toNat - (1 - bit s.p.c)
      let r := BitVec.ofInt 8 d
      Completes f.instr s { s with
        pc := s.pcn f.instr
        a := r
        p := { s.p with
          n := r.getLsbD 7
          v := (s.a ^^^ m) &&& (s.a ^^^ r) &&& 0x80#8 != 0x00#8
          z := r == 0x00#8
          c := decide (0 ≤ d) } }) ∧
  (∀ (a m : Byte) (c : Bool), subBinary a m c = addBinary a (m ^^^ 0xFF#8) c)

/-- SBC with D = 1, in every form. On valid BCD: the decimal difference, and C for no borrow. With
`decimal_flags` at `draw`, N, V and Z are open; with `nmos`, N, V, Z and C are the binary
subtraction's. On other bytes: the algorithm's byte, or a refusal (R144). The carry of the algorithm
under `draw` on bytes that are not BCD is left open here (log 8). The refusal's premise is that no
access of the operand is one the platform rejects (log 22). -/
def Obligations.SbcDecimal : Prop :=
  ∀ (b : Byte) (w : Word), ∀ f ∈ sbcForms b w, ∀ s : State, s.p.d = true →
    let m := s.operand f.place
    let decimal := validBcd s.a = true ∧ validBcd m = true
    let n : Int := (bcd s.a : Int) - bcd m - (1 - bit s.p.c)
    let al : Int := ((s.a.toNat % 16 : Nat) : Int) - (m.toNat % 16 : Nat) + bit s.p.c - 1
    let al : Int := if al < 0 then (al - 0x06) % 16 - 0x10 else al
    let diff : Int := ((s.a.toNat / 16 * 16 : Nat) : Int) - (m.toNat / 16 * 16 : Nat) + al
    let fixed : Int := if diff < 0 then diff - 0x60 else diff
    let binary := subBinary s.a m s.p.c
    let after : State := { s with pc := s.pcn f.instr, a := BitVec.ofInt 8 fixed }
    (decimal → toBcd (n % 100).toNat = BitVec.ofInt 8 fixed ∧ (binary.c = true ↔ 0 ≤ n)) ∧
    (s.params.decimalFlags = .draw → decimal →
      ∃ fn fv fz, Completes f.instr s { after with
        p := { s.p with n := fn, v := fv, z := fz, c := decide (0 ≤ n) } }) ∧
    (s.params.decimalFlags = .draw → s.params.decimalInvalidBcd = .nmos →
      ∃ fn fv fz fc, Completes f.instr s { after with
        p := { s.p with n := fn, v := fv, z := fz, c := fc } }) ∧
    (s.params.decimalFlags = .nmos → decimal ∨ s.params.decimalInvalidBcd = .nmos →
      Completes f.instr s { after with
        p := { s.p with n := binary.n, v := binary.v, z := binary.z, c := binary.c } }) ∧
    (¬decimal → s.params.decimalInvalidBcd = .refuse → s.params.unmappedAccess = .anyValue →
      exec f.instr s = .refused (.invalidDecimalOperand s.a m))

/-- V after a binary ADC: the signed sum lies outside -128 to 127; the operands agree in sign and the
result does not; the carry into bit 7 differs from the carry out. V after a binary SBC: the signed
difference lies outside. The result wraps (R149). -/
def Obligations.OverflowIsSignedOverflow : Prop :=
  ∀ (b : Byte) (w : Word) (s t : State), s.p.d = false →
    (∀ f ∈ adcForms b w, exec f.instr s = .next t →
      let m := s.operand f.place
      let sum := s.a.toInt + m.toInt + bit s.p.c
      (t.p.v = true ↔ sum < -128 ∨ 127 < sum) ∧
      (t.p.v = true ↔ s.a.msb = m.msb ∧ t.a.msb ≠ s.a.msb) ∧
      (t.p.v = true ↔ ¬(128 ≤ s.a.toNat % 128 + m.toNat % 128 + bit s.p.c ↔ 256 ≤ s.a.toNat + m.toNat + bit s.p.c)) ∧
      t.a = BitVec.ofInt 8 sum) ∧
    (∀ f ∈ sbcForms b w, exec f.instr s = .next t →
      let diff := s.a.toInt - (s.operand f.place).toInt - (1 - bit s.p.c)
      (t.p.v = true ↔ diff < -128 ∨ 127 < diff) ∧ t.a = BitVec.ofInt 8 diff)

/-- CMP, CPX, CPY and BIT, in every form: the flags they write, and nothing else changed (R145 to R148). -/
def Obligations.ComparesAndBitTest : Prop :=
  ∀ (b : Byte) (w : Word),
    (∀ f ∈ cmpForms b w, f.readListed ∧ ∀ s : State,
      let m := s.operand f.place
      Completes f.instr s { s with
        pc := s.pcn f.instr
        p := { s.p with n := (s.a - m).getLsbD 7, z := decide (s.a = m), c := decide (m.toNat ≤ s.a.toNat) } }) ∧
    (∀ f ∈ cpxForms b w, f.readListed ∧ ∀ s : State,
      let m := s.operand f.place
      Completes f.instr s { s with
        pc := s.pcn f.instr
        p := { s.p with n := (s.x - m).getLsbD 7, z := decide (s.x = m), c := decide (m.toNat ≤ s.x.toNat) } }) ∧
    (∀ f ∈ cpyForms b w, f.readListed ∧ ∀ s : State,
      let m := s.operand f.place
      Completes f.instr s { s with
        pc := s.pcn f.instr
        p := { s.p with n := (s.y - m).getLsbD 7, z := decide (s.y = m), c := decide (m.toNat ≤ s.y.toNat) } }) ∧
    (∀ f ∈ bitForms b w, f.readListed ∧ ∀ s : State,
      let m := s.operand f.place
      Completes f.instr s { s with
        pc := s.pcn f.instr
        p := { s.p with n := m.getLsbD 7, v := m.getLsbD 6, z := decide (s.a &&& m = 0x00#8) } })

/-- The BCD helpers: which bytes are valid, the number a valid byte stands for, the byte of a number,
and that the one undoes the other (R151). -/
def Obligations.BcdHelpersAgree : Prop :=
  (∀ v : Byte, (validBcd v = true ↔ v.toNat / 16 ≤ 9 ∧ v.toNat % 16 ≤ 9) ∧
    (validBcd v = true → bcd v = 10 * (v.toNat / 16) + v.toNat % 16)) ∧
  (∀ n : Nat, n ≤ 99 → (toBcd n).toNat = n / 10 * 16 + n % 10 ∧ bcd (toBcd n) = n ∧ validBcd (toBcd n) = true)

/-- Decimal mode reaches ADC and SBC only (R152). Every other instruction but those that write D or
push it does the same in both modes and leaves D as it was; SED, CLD, PLP and RTI, which write it, do
the same whatever it held; PHP and BRK, which push it, do the same but for the byte they push, whose
bit 3 it is. That a push to a device's address leaves no trace of the byte in Mem, and that a device
answers alike in both runs, is the model's choice (log 10). -/
def Obligations.DecimalModeReachesAdcAndSbcOnly : Prop :=
  ∀ (i : Instr) (s t : State) (d : Bool),
    i.mnemonic ∉ [.adc, .sbc] → exec i s = .next t →
    (i.mnemonic ∉ [.sed, .cld, .plp, .rti, .php, .brk] →
      exec i { s with p := { s.p with d := d } } = .next { t with p := { t.p with d := d } }) ∧
    (i.mnemonic ∈ [.sed, .cld, .plp, .rti] → exec i { s with p := { s.p with d := d } } = .next t) ∧
    (i.mnemonic ∈ [.php, .brk] →
      ∃ u, exec i { s with p := { s.p with d := d } } = .next u ∧ u.touches = t.touches ∧
        u = { t with p := { t.p with d := d }, mem := u.mem, bus := u.bus } ∧
        (∀ there : Word, there ≠ stackAddr (t.sp + 1) → u.byteAt there = t.byteAt there) ∧
        (u.byteAt (stackAddr (t.sp + 1)) ^^^ t.byteAt (stackAddr (t.sp + 1))) &&& 0xF7#8 = 0x00#8)

/-! ## Shifts and rotates -/

/-- ASL and LSR, on the accumulator and on memory: the byte moves one place, 0 enters, the bit moved
out is C, N and Z follow the result, and nothing else changes (R171, R172). The byte at a device's
address that is written is left open, and that such a write reaches nothing else is the model's (log 10). -/
def Obligations.AslAndLsr : Prop :=
  Listed .aslAcc [0x0A#8] 2 ∧ Listed .lsrAcc [0x4A#8] 2 ∧
  (∀ s : State,
    let r := BitVec.ofNat 8 (2 * s.a.toNat % 256)
    Completes .aslAcc s { s with
      pc := s.pcn .aslAcc
      a := r
      p := { s.p with n := s.a.getLsbD 6, z := r == 0x00#8, c := s.a.getLsbD 7 } }) ∧
  (∀ s : State,
    let r := BitVec.ofNat 8 (s.a.toNat / 2)
    Completes .lsrAcc s { s with
      pc := s.pcn .lsrAcc
      a := r
      p := { s.p with n := false, z := r == 0x00#8, c := s.a.getLsbD 0 } }) ∧
  (∀ (b : Byte) (w : Word), ∀ f ∈ aslForms b w, f.listed ∧ ∀ s : State,
    let v := s.modified f.place
    let r := BitVec.ofNat 8 (2 * v.toNat % 256)
    CompletesStoring f.instr s { s with
      pc := s.pcn f.instr
      p := { s.p with n := v.getLsbD 6, z := r == 0x00#8, c := v.getLsbD 7 } } [(s.target f.place, r)]) ∧
  (∀ (b : Byte) (w : Word), ∀ f ∈ lsrForms b w, f.listed ∧ ∀ s : State,
    let v := s.modified f.place
    let r := BitVec.ofNat 8 (v.toNat / 2)
    CompletesStoring f.instr s { s with
      pc := s.pcn f.instr
      p := { s.p with n := false, z := r == 0x00#8, c := v.getLsbD 0 } } [(s.target f.place, r)])

/-- ROL and ROR, on the accumulator and on memory: the byte and C rotate one place as nine bits, N
and Z follow the byte, and nothing else changes (R173, R174). The byte at a device's address that is
written is left open, and that such a write reaches nothing else is the model's (log 10). -/
def Obligations.RolAndRor : Prop :=
  Listed .rolAcc [0x2A#8] 2 ∧ Listed .rorAcc [0x6A#8] 2 ∧
  (∀ s : State,
    let r := BitVec.ofNat 8 (2 * s.a.toNat % 256 + bit s.p.c)
    Completes .rolAcc s { s with
      pc := s.pcn .rolAcc
      a := r
      p := { s.p with n := s.a.getLsbD 6, z := r == 0x00#8, c := s.a.getLsbD 7 } }) ∧
  (∀ s : State,
    let r := BitVec.ofNat 8 (s.a.toNat / 2 + 128 * bit s.p.c)
    Completes .rorAcc s { s with
      pc := s.pcn .rorAcc
      a := r
      p := { s.p with n := s.p.c, z := r == 0x00#8, c := s.a.getLsbD 0 } }) ∧
  (∀ (b : Byte) (w : Word), ∀ f ∈ rolForms b w, f.listed ∧ ∀ s : State,
    let v := s.modified f.place
    let r := BitVec.ofNat 8 (2 * v.toNat % 256 + bit s.p.c)
    CompletesStoring f.instr s { s with
      pc := s.pcn f.instr
      p := { s.p with n := v.getLsbD 6, z := r == 0x00#8, c := v.getLsbD 7 } } [(s.target f.place, r)]) ∧
  (∀ (b : Byte) (w : Word), ∀ f ∈ rorForms b w, f.listed ∧ ∀ s : State,
    let v := s.modified f.place
    let r := BitVec.ofNat 8 (v.toNat / 2 + 128 * bit s.p.c)
    CompletesStoring f.instr s { s with
      pc := s.pcn f.instr
      p := { s.p with n := s.p.c, z := r == 0x00#8, c := v.getLsbD 0 } } [(s.target f.place, r)])

/-- On the accumulator, ROR undoes ROL and ROL undoes ROR, byte and carry, and nine of either in a row
restore both (R173, R174). -/
def Obligations.RotatesUndoEachOther : Prop :=
  (∀ s t u : State, exec .rolAcc s = .next t → exec .rorAcc t = .next u → u.a = s.a ∧ u.p.c = s.p.c) ∧
  (∀ s t u : State, exec .rorAcc s = .next t → exec .rolAcc t = .next u → u.a = s.a ∧ u.p.c = s.p.c) ∧
  (∀ (i : Instr) (run : Nat → State), i = .rolAcc ∨ i = .rorAcc →
    (∀ k < 9, exec i (run k) = .next (run (k + 1))) →
    (run 9).a = (run 0).a ∧ (run 9).p.c = (run 0).p.c)

/-- Multi-byte shifts chain through C: ASL on the low byte then ROL on the high byte doubles a 16-bit
value, LSR on the high byte then ROR on the low byte halves it, and C is the bit moved out (R178). -/
def Obligations.SixteenBitShiftsChain : Prop :=
  ∀ (lo hi : Byte) (p : Flags),
    (let low := asl lo p
     let high := rol hi low.2
     (hiLo high.1 low.1).toNat = 2 * (hiLo hi lo).toNat % 65536 ∧ high.2.c = (hiLo hi lo).getLsbD 15) ∧
    (let high := lsr hi p
     let low := ror lo high.2
     (hiLo high.1 low.1).toNat = (hiLo hi lo).toNat / 2 ∧ low.2.c = (hiLo hi lo).getLsbD 0)

/-! ## Branches -/

/-- The eight branches: PC takes the target when the flag has the value, else the next instruction's
address; nothing else changes; two cycles, three to the same page, four to another (R191 to R198,
R200, R201). -/
def Obligations.BranchesTestOneFlag : Prop :=
  ∀ (s : State) (b : Byte),
    ∀ c ∈ [(Instr.bcc b, 0x90#8, !s.p.c), (.bcs b, 0xB0#8, s.p.c), (.beq b, 0xF0#8, s.p.z), (.bmi b, 0x30#8, s.p.n),
        (.bne b, 0xD0#8, !s.p.z), (.bpl b, 0x10#8, !s.p.n), (.bvc b, 0x50#8, !s.p.v), (.bvs b, 0x70#8, s.p.v)],
      let pcn := s.pc + 2
      let target := BitVec.ofInt 16 ((pcn.toNat : Int) + b.toInt)
      encode c.1 = [c.2.1, b] ∧
      cycles c.1 s = (if c.2.2 = true then (if hiByte target = hiByte pcn then 3 else 4) else 2) ∧
      Completes c.1 s { s with pc := if c.2.2 = true then target else pcn }

/-- The hardware's two-step sum, low bytes first and then the carry or the borrow of the sign, is the
16-bit signed sum; offset 00 targets the next instruction, FE the branch itself, FF its offset byte
(R199). -/
def Obligations.BranchTargetInTwoSteps : Prop :=
  (∀ (pcn : Word) (oper : Byte),
    let lo9 := (loByte pcn).toNat + oper.toNat
    let carry := decide (256 ≤ lo9)
    let high := (hiByte pcn).toNat
    branchTarget pcn oper = hiLo
      (BitVec.ofNat 8 (if oper.getLsbD 7 = true then high + 256 - bit (!carry) else high + bit carry))
      (BitVec.ofNat 8 lo9)) ∧
  (∀ (pcn : Word) (oper : Byte), ∃ d : Int, -128 ≤ d ∧ d ≤ 127 ∧
    (branchTarget pcn oper).toNat = ((pcn.toNat : Int) + d) % 65536) ∧
  (∀ pc : Word, branchTarget (pc + 2) 0x00#8 = pc + 2 ∧ branchTarget (pc + 2) 0xFE#8 = pc ∧
    branchTarget (pc + 2) 0xFF#8 = pc + 1)

/-! ## Jumps, calls, returns -/

/-- JMP: absolute, PC is the operand; indirect, PC is the pointer at the operand, low byte first, whose
second byte stays in the first one's page; nothing else changes (R210, R211, R123). -/
def Obligations.JumpsLoadPc : Prop :=
  (∀ w : Word, Listed (.jmpAbs w) [0x4C#8, loByte w, hiByte w] 3 ∧
    ∀ s : State, Completes (.jmpAbs w) s { s with pc := w }) ∧
  (∀ w : Word, Listed (.jmpInd w) [0x6C#8, loByte w, hiByte w] 5 ∧
    ∀ s : State,
      let second := if s.params.jmpIndirectPageWrap = true then hiLo (hiByte w) (loByte w + 1) else w + 1
      ∃ lo hi, s.Delivers w lo ∧ s.Delivers second hi ∧ Completes (.jmpInd w) s { s with pc := hiLo hi lo })

/-- JSR: the address of its own last byte is pushed, high byte first, S goes down by 2, PC is the
operand's low byte and the byte its last address delivers after the pushes, and nothing else changes
(R212). The byte at a device's address that is written is left open, and that such a write reaches
nothing else is the model's (log 10). -/
def Obligations.JsrPushesAndJumps : Prop :=
  ∀ w : Word, Listed (.jsr w) [0x20#8, loByte w, hiByte w] 6 ∧
    ∀ s : State,
      let ret := s.pc + 2
      let writes := [(stackAddr s.sp, hiByte ret), (stackAddr (s.sp - 1), loByte ret)]
      ∃ hi, (s.answers ret = true → hi = s.stored writes ret) ∧
        CompletesStoring (.jsr w) s { s with sp := s.sp - 2, pc := hiLo hi (loByte w) } writes

/-- RTS: PC is pulled, low byte first, and incremented, S goes up by 2, and nothing else changes (R213). -/
def Obligations.RtsPullsPc : Prop :=
  Listed .rts [0x60#8] 6 ∧
    ∀ s : State, ∃ lo hi, s.Delivers (stackAddr (s.sp + 1)) lo ∧ s.Delivers (stackAddr (s.sp + 2)) hi ∧
      Completes .rts s { s with sp := s.sp + 2, pc := hiLo hi lo + 1 }

/-- RTI: the six flags and then PC are pulled, S goes up by 3, and nothing else changes (R214). -/
def Obligations.RtiPullsFlagsAndPc : Prop :=
  Listed .rti [0x40#8] 6 ∧
    ∀ s : State, ∃ v lo hi, s.Delivers (stackAddr (s.sp + 1)) v ∧ s.Delivers (stackAddr (s.sp + 2)) lo ∧
      s.Delivers (stackAddr (s.sp + 3)) hi ∧
      Completes .rti s { s with
        sp := s.sp + 3
        pc := hiLo hi lo
        p := { n := v.getLsbD 7, v := v.getLsbD 6, d := v.getLsbD 3, i := v.getLsbD 2, z := v.getLsbD 1, c := v.getLsbD 0 } }

/-- A call and its return, and an interrupt entry and its return: with S where the call or the entry
left it, on the same platform, and the stack bytes unmodified, RTS resumes after the JSR and RTI resumes
where the entry was taken, S is restored, and RTI restores all six flags (R215). -/
def Obligations.CallAndInterruptReturn : Prop :=
  (∀ (w : Word) (s t u : State), s.kindAt (stackAddr s.sp) = .ram → s.kindAt (stackAddr (s.sp - 1)) = .ram →
    exec (.jsr w) s = .next t → u.sp = t.sp → u.params = t.params →
    (∀ a ∈ [stackAddr s.sp, stackAddr (s.sp - 1)], u.byteAt a = t.byteAt a) →
    ∃ v, exec .rts u = .next v ∧ v.pc = s.pc + 3 ∧ v.sp = s.sp) ∧
  (∀ (s t u : State) (ret : Word), s.kindAt (stackAddr s.sp) = .ram → s.kindAt (stackAddr (s.sp - 1)) = .ram →
    s.kindAt (stackAddr (s.sp - 2)) = .ram →
    ((t = s.takeIrq ∧ ret = s.pc) ∨ (t = s.takeNmi ∧ ret = s.pc) ∨ (exec .brk s = .next t ∧ ret = s.pc + 2)) →
    u.sp = t.sp → u.params = t.params →
    (∀ a ∈ [stackAddr s.sp, stackAddr (s.sp - 1), stackAddr (s.sp - 2)], u.byteAt a = t.byteAt a) →
    ∃ v, exec .rti u = .next v ∧ v.pc = ret ∧ v.sp = s.sp ∧ v.p = s.p)

/-! ## Loads, stores, transfers -/

/-- LDA, LDX, LDY, in every form: the register takes the operand, N and Z follow it, and nothing else
changes (R231 to R233). -/
def Obligations.LoadsTakeTheOperand : Prop :=
  ∀ (b : Byte) (w : Word),
    (∀ f ∈ ldaForms b w, f.readListed ∧ ∀ s : State,
      Completes f.instr s { s with
        pc := s.pcn f.instr, a := s.operand f.place, p := s.p.setNZ (s.operand f.place) }) ∧
    (∀ f ∈ ldxForms b w, f.readListed ∧ ∀ s : State,
      Completes f.instr s { s with
        pc := s.pcn f.instr, x := s.operand f.place, p := s.p.setNZ (s.operand f.place) }) ∧
    (∀ f ∈ ldyForms b w, f.readListed ∧ ∀ s : State,
      Completes f.instr s { s with
        pc := s.pcn f.instr, y := s.operand f.place, p := s.p.setNZ (s.operand f.place) })

/-- STA, STX, STY, in every form: the byte at the effective address takes the register where it is
RAM, and no other byte, no register and no flag changes (R234 to R236). The byte at a device's
address that is written is left open, and that such a write reaches nothing else is the model's (log 10). -/
def Obligations.StoresWriteOneByte : Prop :=
  ∀ (b : Byte) (w : Word),
    (∀ f ∈ staForms b w, f.listed ∧ ∀ s : State,
      CompletesStoring f.instr s { s with pc := s.pcn f.instr } [(s.target f.place, s.a)]) ∧
    (∀ f ∈ stxForms b w, f.listed ∧ ∀ s : State,
      CompletesStoring f.instr s { s with pc := s.pcn f.instr } [(s.target f.place, s.x)]) ∧
    (∀ f ∈ styForms b w, f.listed ∧ ∀ s : State,
      CompletesStoring f.instr s { s with pc := s.pcn f.instr } [(s.target f.place, s.y)])

/-- The six transfers: N and Z follow the byte moved, but for TXS, which writes no flag (R237 to R242). -/
def Obligations.TransfersCopyOneRegister : Prop :=
  Listed .tax [0xAA#8] 2 ∧ Listed .tay [0xA8#8] 2 ∧ Listed .tsx [0xBA#8] 2 ∧ Listed .txa [0x8A#8] 2 ∧
  Listed .txs [0x9A#8] 2 ∧ Listed .tya [0x98#8] 2 ∧
  ∀ s : State,
    Completes .tax s { s with pc := s.pc + 1, x := s.a, p := s.p.setNZ s.a } ∧
    Completes .tay s { s with pc := s.pc + 1, y := s.a, p := s.p.setNZ s.a } ∧
    Completes .tsx s { s with pc := s.pc + 1, x := s.sp, p := s.p.setNZ s.sp } ∧
    Completes .txa s { s with pc := s.pc + 1, a := s.x, p := s.p.setNZ s.x } ∧
    Completes .txs s { s with pc := s.pc + 1, sp := s.x } ∧
    Completes .tya s { s with pc := s.pc + 1, a := s.y, p := s.p.setNZ s.y }

/-! ## Logic, increments, decrements -/

/-- AND, EOR, ORA, in every form: A takes the bitwise result, N and Z follow it, and nothing else
changes (R261 to R263). -/
def Obligations.LogicOnTheAccumulator : Prop :=
  ∀ (b : Byte) (w : Word),
    (∀ f ∈ andForms b w, f.readListed ∧ ∀ s : State,
      Completes f.instr s { s with
        pc := s.pcn f.instr, a := s.a &&& s.operand f.place, p := s.p.setNZ (s.a &&& s.operand f.place) }) ∧
    (∀ f ∈ eorForms b w, f.readListed ∧ ∀ s : State,
      Completes f.instr s { s with
        pc := s.pcn f.instr, a := s.a ^^^ s.operand f.place, p := s.p.setNZ (s.a ^^^ s.operand f.place) }) ∧
    (∀ f ∈ oraForms b w, f.readListed ∧ ∀ s : State,
      Completes f.instr s { s with
        pc := s.pcn f.instr, a := s.a ||| s.operand f.place, p := s.p.setNZ (s.a ||| s.operand f.place) })

/-- INC and DEC, in every form: the byte at the effective address moves by one modulo 256 where it
is RAM, N and Z follow the result in any case, and nothing else changes (R264, R267). The byte at a
device's address that is written is left open, and that such a write reaches nothing else is the model's (log 10).
-/
def Obligations.IncAndDecMemory : Prop :=
  ∀ (b : Byte) (w : Word),
    (∀ f ∈ incForms b w, f.listed ∧ ∀ s : State,
      let r := BitVec.ofNat 8 (((s.modified f.place).toNat + 1) % 256)
      CompletesStoring f.instr s { s with pc := s.pcn f.instr, p := s.p.setNZ r } [(s.target f.place, r)]) ∧
    (∀ f ∈ decForms b w, f.listed ∧ ∀ s : State,
      let r := BitVec.ofNat 8 (((s.modified f.place).toNat + 255) % 256)
      CompletesStoring f.instr s { s with pc := s.pcn f.instr, p := s.p.setNZ r } [(s.target f.place, r)])

/-- INX, INY, DEX, DEY: the index register moves by one modulo 256, N and Z follow it, and nothing else
changes (R265, R266, R268, R269). -/
def Obligations.IndexRegistersCount : Prop :=
  Listed .inx [0xE8#8] 2 ∧ Listed .iny [0xC8#8] 2 ∧ Listed .dex [0xCA#8] 2 ∧ Listed .dey [0x88#8] 2 ∧
  ∀ s : State,
    (let r := BitVec.ofNat 8 ((s.x.toNat + 1) % 256)
     Completes .inx s { s with pc := s.pc + 1, x := r, p := s.p.setNZ r }) ∧
    (let r := BitVec.ofNat 8 ((s.y.toNat + 1) % 256)
     Completes .iny s { s with pc := s.pc + 1, y := r, p := s.p.setNZ r }) ∧
    (let r := BitVec.ofNat 8 ((s.x.toNat + 255) % 256)
     Completes .dex s { s with pc := s.pc + 1, x := r, p := s.p.setNZ r }) ∧
    (let r := BitVec.ofNat 8 ((s.y.toNat + 255) % 256)
     Completes .dey s { s with pc := s.pc + 1, y := r, p := s.p.setNZ r })

/-! ## Stack, flags, BRK -/

/-- PHA, PHP, PLA, PLP: what is pushed or pulled, S by one, the flags a pull writes, and nothing
else changed (R281 to R284). The byte at a device's address that is written is left open, and that
such a write reaches nothing else is the model's (log 10). -/
def Obligations.StackInstructions : Prop :=
  Listed .pha [0x48#8] 3 ∧ Listed .php [0x08#8] 3 ∧ Listed .pla [0x68#8] 4 ∧ Listed .plp [0x28#8] 4 ∧
  ∀ s : State,
    CompletesStoring .pha s { s with pc := s.pc + 1, sp := s.sp - 1 } [(stackAddr s.sp, s.a)] ∧
    CompletesStoring .php s { s with pc := s.pc + 1, sp := s.sp - 1 } [(stackAddr s.sp, BitVec.ofNat 8
      (0x30 + 128 * bit s.p.n + 64 * bit s.p.v + 8 * bit s.p.d + 4 * bit s.p.i + 2 * bit s.p.z + bit s.p.c))] ∧
    (∃ v, s.Delivers (stackAddr (s.sp + 1)) v ∧
      Completes .pla s { s with pc := s.pc + 1, sp := s.sp + 1, a := v, p := s.p.setNZ v }) ∧
    (∃ v, s.Delivers (stackAddr (s.sp + 1)) v ∧
      Completes .plp s { s with
        pc := s.pc + 1
        sp := s.sp + 1
        p := { n := v.getLsbD 7, v := v.getLsbD 6, d := v.getLsbD 3, i := v.getLsbD 2, z := v.getLsbD 1, c := v.getLsbD 0 } })

/-- The seven flag instructions write their one flag, NOP none, and nothing else changes (R285 to R292). -/
def Obligations.FlagInstructionsAndNop : Prop :=
  Listed .clc [0x18#8] 2 ∧ Listed .cld [0xD8#8] 2 ∧ Listed .cli [0x58#8] 2 ∧ Listed .clv [0xB8#8] 2 ∧
  Listed .sec [0x38#8] 2 ∧ Listed .sed [0xF8#8] 2 ∧ Listed .sei [0x78#8] 2 ∧ Listed .nop [0xEA#8] 2 ∧
  ∀ s : State,
    Completes .clc s { s with pc := s.pc + 1, p := { s.p with c := false } } ∧
    Completes .cld s { s with pc := s.pc + 1, p := { s.p with d := false } } ∧
    Completes .cli s { s with pc := s.pc + 1, p := { s.p with i := false } } ∧
    Completes .clv s { s with pc := s.pc + 1, p := { s.p with v := false } } ∧
    Completes .sec s { s with pc := s.pc + 1, p := { s.p with c := true } } ∧
    Completes .sed s { s with pc := s.pc + 1, p := { s.p with d := true } } ∧
    Completes .sei s { s with pc := s.pc + 1, p := { s.p with i := true } } ∧
    Completes .nop s { s with pc := s.pc + 1 }

/-- BRK: the address two bytes on and P with bits 5 and 4 set, as it was, are pushed, I is set,
control goes through the vector at FFFE whatever I holds, and nothing else changes (R293). The byte
at a device's address that is written is left open, and that such a write reaches nothing else is
the model's (log 10). -/
def Obligations.BrkEntersTheHandler : Prop :=
  Listed .brk [0x00#8] 7 ∧
  ∀ s : State,
    let ret := s.pc + 2
    ∃ lo hi, s.Delivers 0xFFFE#16 lo ∧ s.Delivers 0xFFFF#16 hi ∧
      CompletesStoring .brk s { s with sp := s.sp - 3, p := { s.p with i := true }, pc := hiLo hi lo }
        [(stackAddr s.sp, hiByte ret), (stackAddr (s.sp - 1), loByte ret), (stackAddr (s.sp - 2), s.p.pack true)]

/-! ## Interrupts and reset -/

/-- A boundary with NMI pending takes NMI, whatever I holds and whatever IRQ does; one without, with
IRQ asserted, enabled and chosen, takes IRQ: PC and P, its bit 4 clear, are pushed, I is set, control
goes through the event's vector, NMI's latch is cleared, and nothing else changes (R316 to R318). The
premise on the map leaves out the platform that is asked to get stuck. That the boundary's choice to
take the IRQ stands in the schedule is the model's (log 14), and so it is that a part without tier G
takes both (log 30); the byte at a device's address that is written is left open, and that such a
write reaches nothing else is the model's (log 10). -/
def Obligations.InterruptsAreTakenByPriority : Prop :=
  ∀ s : State, s.params.unmappedAccess = .anyValue →
    let u := s.sample
    let writes := [(stackAddr u.sp, hiByte u.pc), (stackAddr (u.sp - 1), loByte u.pc),
      (stackAddr (u.sp - 2), u.p.pack false)]
    u.resetLine = false → u.resetPending = false →
    (u.nmiPending = true → ∃ t lo hi, step s = .next t ∧ u.Delivers 0xFFFA#16 lo ∧ u.Delivers 0xFFFB#16 hi ∧
      Stored writes u t ∧ t = { u with
        sp := u.sp - 3, p := { u.p with i := true }, pc := hiLo hi lo, nmiPending := false
        mem := t.mem, bus := t.bus, draws := t.draws }) ∧
    (u.nmiPending = false → u.irqLine = true → u.p.i = false → s.boundary.takeIrq = true →
      ∃ t lo hi, step s = .next t ∧ u.Delivers 0xFFFE#16 lo ∧ u.Delivers 0xFFFF#16 hi ∧
        Stored writes u t ∧ t = { u with
          sp := u.sp - 3, p := { u.p with i := true }, pc := hiLo hi lo
          mem := t.mem, bus := t.bus, draws := t.draws })

/-- With I = 1 the IRQ line has no part in a step: a boundary with no event on it gives, with the line
at either level, the same state but for the line (R313). -/
def Obligations.MaskedIrqHasNoPart : Prop :=
  ∀ (s t : State) (level : Bool), s.p.i = true → (∀ e ∈ s.boundary.events, ∀ l, e ≠ .irq l) →
    step s = .next t → step { s with irqLine := level } = .next { t with irqLine := level }

/-- NMI is an edge with a latch and IRQ is a level: a change of NMI from released to asserted sets the
latch, a line held or released does not touch it, and the IRQ line is held nowhere else (R313, R314). -/
def Obligations.NmiIsLatchedIrqIsALevel : Prop :=
  ∀ s : State,
    (s.nmiLine = false → s.applyPin (.nmi true) = { s with nmiLine := true, nmiPending := true }) ∧
    (s.nmiLine = true → s.applyPin (.nmi true) = s) ∧
    s.applyPin (.nmi false) = { s with nmiLine := false } ∧
    (∀ level, s.applyPin (.irq level) = { s with irqLine := level })

/-- While RESET is asserted a step does nothing; when it has been released the step is the reset
sequence, before any interrupt: S goes down by 3, I is set, no NMI is pending, PC comes from the vector
at FFFC, and no byte of memory and no other register or flag changes (R315, R351; that the sequence is
one step and has a latch of its own is the model's, log 17, and so it is that a part without tier G
has it, log 30). -/
def Obligations.ResetOverridesEverything : Prop :=
  ∀ s : State, s.params.unmappedAccess = .anyValue →
    let u := s.sample
    (u.resetLine = true → step s = .next u) ∧
    (u.resetLine = false → u.resetPending = true →
      ∃ t lo hi, step s = .next t ∧ u.Delivers 0xFFFC#16 lo ∧ u.Delivers 0xFFFD#16 hi ∧ t = { u with
        sp := u.sp - 3, p := { u.p with i := true }, pc := hiLo hi lo, nmiPending := false, resetPending := false
        bus := t.bus, draws := t.draws }) ∧
    (u.resetLine = true → (u.applyPin (.reset false)).resetLine = false ∧ (u.applyPin (.reset false)).resetPending = true)

end Statements
end

