-- ==== Sys2Proof/Laws/Memory.lean ====
section
/-! SUPPORT. The laws of memory: a read after a write, and the canonical form every write keeps.
The read laws hold of every list of cells, canonical or not. -/

namespace Sys2Proof.Machine

@[simp] theorem Memory.read_nil (a : Nat) : Memory.read [] a = Memory.blank := rfl

theorem Memory.read_erase_same (m : Memory) (a : Nat) : (Memory.erase m a).read a = Memory.blank := by
  induction m with
  | nil => rfl
  | cons cell rest ih =>
    by_cases h : cell.1 = a
    · simpa [Memory.erase, h] using ih
    · simpa [Memory.erase, Memory.read, h] using ih

theorem Memory.read_erase_other {a b : Nat} (m : Memory) (h : b ≠ a) : (Memory.erase m a).read b = m.read b := by
  induction m with
  | nil => rfl
  | cons cell rest ih =>
    by_cases ha : cell.1 = a
    · have hb : cell.1 ≠ b := by omega
      simpa [Memory.erase, Memory.read, ha, hb, h.symm] using ih
    · simp [Memory.erase, Memory.read, ha, ih]

theorem Memory.read_insert_other {a b : Nat} (m : Memory) (v : Byte) (h : b ≠ a) :
    (Memory.insert m (a, v)).read b = m.read b := by
  induction m with
  | nil => simp [Memory.insert, Memory.read, h.symm]
  | cons cell rest ih =>
    by_cases hlt : a < cell.1
    · simp [Memory.insert, Memory.read, hlt, h.symm]
    · simp [Memory.insert, Memory.read, hlt, ih]

/-- A cell inserted into a memory that lists nothing at its address is read back. -/
theorem Memory.read_insert_same (m : Memory) (a : Nat) (v : Byte) (h : ∀ cell ∈ m, cell.1 ≠ a) :
    (Memory.insert m (a, v)).read a = v := by
  induction m with
  | nil => simp [Memory.insert, Memory.read]
  | cons cell rest ih =>
    have hne : cell.1 ≠ a := h cell (by simp)
    have hrest := ih (fun c hc => h c (by simp [hc]))
    by_cases hlt : a < cell.1
    · simp [Memory.insert, Memory.read, hlt]
    · simp [Memory.insert, Memory.read, hlt, hne, hrest]

theorem Memory.not_mem_erase (m : Memory) (a : Nat) : ∀ cell ∈ Memory.erase m a, cell.1 ≠ a := by
  induction m with
  | nil => simp [Memory.erase]
  | cons cell rest ih =>
    by_cases h : cell.1 = a
    · simpa [Memory.erase, h] using ih
    · simpa [Memory.erase, h] using ih

/-- A read of the address just written gives the value written. -/
@[simp] theorem Memory.read_write_same (m : Memory) (a : Nat) (v : Byte) : (m.write a v).read a = v := by
  by_cases h : v = Memory.blank
  · simp [Memory.write, h, Memory.read_erase_same]
  · simp [Memory.write, h, Memory.read_insert_same _ _ _ (Memory.not_mem_erase m a)]

/-- A write leaves every other address alone. -/
theorem Memory.read_write_other {a b : Nat} (m : Memory) (v : Byte) (h : b ≠ a) : (m.write a v).read b = m.read b := by
  by_cases hv : v = Memory.blank
  · simp [Memory.write, hv, Memory.read_erase_other m h]
  · simp [Memory.write, hv, Memory.read_insert_other _ _ h, Memory.read_erase_other m h]

/-- A read after a write, at any address. -/
theorem Memory.read_write (m : Memory) (a b : Nat) (v : Byte) : (m.write a v).read b = if b = a then v else m.read b := by
  by_cases h : b = a
  · subst h; simp
  · simp [h, Memory.read_write_other m v h]

/-! ## The canonical form -/

theorem Memory.wfFrom_cons {low : Nat} {cell : Host.Cell} {rest : Memory} :
    Memory.wfFrom low (cell :: rest) = true ↔
      low ≤ cell.1 ∧ cell.1 < 65536 ∧ cell.2 ≠ Memory.blank ∧ Memory.wfFrom (cell.1 + 1) rest = true := by
  simp [Memory.wfFrom, and_assoc]

theorem Memory.wfFrom_mono {low low' : Nat} {m : Memory} (h : Memory.wfFrom low m = true) (hle : low' ≤ low) :
    Memory.wfFrom low' m = true := by
  cases m with
  | nil => rfl
  | cons cell rest =>
    rw [Memory.wfFrom_cons] at h ⊢
    exact ⟨by omega, h.2⟩

theorem Memory.wfFrom_erase {low : Nat} {m : Memory} (a : Nat) (h : Memory.wfFrom low m = true) :
    Memory.wfFrom low (Memory.erase m a) = true := by
  induction m generalizing low with
  | nil => rfl
  | cons cell rest ih =>
    rw [Memory.wfFrom_cons] at h
    obtain ⟨hlow, htop, hv, hrest⟩ := h
    by_cases ha : cell.1 = a
    · simpa [Memory.erase, ha] using Memory.wfFrom_mono (ih hrest) (by omega)
    · simp only [Memory.erase, ha, if_false]
      exact Memory.wfFrom_cons.mpr ⟨hlow, htop, hv, ih hrest⟩

theorem Memory.wfFrom_insert {low : Nat} {m : Memory} {a : Nat} {v : Byte} (h : Memory.wfFrom low m = true)
    (hnew : ∀ cell ∈ m, cell.1 ≠ a) (hlow : low ≤ a) (htop : a < 65536) (hv : v ≠ Memory.blank) :
    Memory.wfFrom low (Memory.insert m (a, v)) = true := by
  induction m generalizing low with
  | nil => exact Memory.wfFrom_cons.mpr ⟨hlow, htop, hv, rfl⟩
  | cons cell rest ih =>
    rw [Memory.wfFrom_cons] at h
    obtain ⟨hl, ht, hb, hrest⟩ := h
    have hne : cell.1 ≠ a := hnew cell (by simp)
    by_cases hlt : a < cell.1
    · simp only [Memory.insert, hlt, if_true]
      exact Memory.wfFrom_cons.mpr ⟨hlow, htop, hv, Memory.wfFrom_cons.mpr ⟨hlt, ht, hb, hrest⟩⟩
    · simp only [Memory.insert, hlt, if_false]
      exact Memory.wfFrom_cons.mpr ⟨hl, ht, hb, ih hrest (fun c hc => hnew c (by simp [hc])) (by omega)⟩

/-- A write below 2^16 keeps the canonical form. -/
theorem Memory.wf_write {m : Memory} {a : Nat} (v : Byte) (h : m.wf = true) (htop : a < 65536) : (m.write a v).wf = true := by
  have herase := Memory.wfFrom_erase a h
  by_cases hv : v = Memory.blank
  · simpa [Memory.write, hv, Memory.wf] using herase
  · simpa [Memory.write, hv, Memory.wf] using
      Memory.wfFrom_insert herase (Memory.not_mem_erase m a) (Nat.zero_le a) htop hv

theorem Memory.wfFrom_read_ge {low : Nat} {m : Memory} {a : Nat} (h : Memory.wfFrom low m = true) (ha : a < low) :
    m.read a = Memory.blank := by
  induction m generalizing low with
  | nil => rfl
  | cons cell rest ih =>
    rw [Memory.wfFrom_cons] at h
    have : cell.1 ≠ a := by omega
    simpa [Memory.read, this] using ih h.2.2.2 (by omega)

/-- Two canonical memories that read alike below 2^16 are the same list. -/
theorem Memory.ext_of_wfFrom {low : Nat} {m m' : Memory} (h : Memory.wfFrom low m = true) (h' : Memory.wfFrom low m' = true)
    (hread : ∀ a, a < 65536 → m.read a = m'.read a) : m = m' := by
  induction m generalizing low m' with
  | nil =>
    cases m' with
    | nil => rfl
    | cons c r =>
      rw [Memory.wfFrom_cons] at h'
      exact absurd (by simpa [Memory.read] using (hread c.1 h'.2.1).symm) h'.2.2.1
  | cons cell rest ih =>
    have hc := Memory.wfFrom_cons.mp h
    cases m' with
    | nil => exact absurd (by simpa [Memory.read] using hread cell.1 hc.2.1) hc.2.2.1
    | cons c r =>
      have hc' := Memory.wfFrom_cons.mp h'
      have haddr : cell.1 = c.1 := by
        rcases Nat.lt_trichotomy cell.1 c.1 with hlt | heq | hgt
        · have := hread cell.1 hc.2.1
          rw [Memory.wfFrom_read_ge (m := c :: r) (low := c.1) (Memory.wfFrom_cons.mpr ⟨Nat.le_refl _, hc'.2⟩) hlt] at this
          exact absurd (by simpa [Memory.read] using this) hc.2.2.1
        · exact heq
        · have := hread c.1 hc'.2.1
          rw [Memory.wfFrom_read_ge (m := cell :: rest) (low := cell.1) (Memory.wfFrom_cons.mpr ⟨Nat.le_refl _, hc.2⟩) hgt] at this
          exact absurd (by simpa [Memory.read] using this.symm) hc'.2.2.1
      have hval : cell.2 = c.2 := by simpa [Memory.read, haddr] using hread cell.1 hc.2.1
      have hrest : rest = r := by
        refine ih hc.2.2.2 (haddr ▸ hc'.2.2.2) (fun a ha => ?_)
        by_cases hle : a < cell.1 + 1
        · rw [Memory.wfFrom_read_ge hc.2.2.2 hle, Memory.wfFrom_read_ge hc'.2.2.2 (haddr ▸ hle)]
        · have h1 : cell.1 ≠ a := by omega
          have h2 : c.1 ≠ a := by omega
          simpa [Memory.read, h1, h2] using hread a ha
      rw [hrest, Prod.ext haddr hval]

end Sys2Proof.Machine
end

