-- ==== Sys2Proof/Laws/State.lean ====
section
/-! SUPPORT. One lemma per field per update: what each named operation leaves unchanged, and the
field it writes, so that no proof unfolds a record update. -/

namespace Sys2Proof.Machine

/-! ## The fields an operation leaves alone -/

@[simp] theorem State.noteRead_a (s : State) (addr : Word) : (s.noteRead addr).a = s.a := rfl

@[simp] theorem State.noteRead_x (s : State) (addr : Word) : (s.noteRead addr).x = s.x := rfl

@[simp] theorem State.noteRead_y (s : State) (addr : Word) : (s.noteRead addr).y = s.y := rfl

@[simp] theorem State.noteRead_sp (s : State) (addr : Word) : (s.noteRead addr).sp = s.sp := rfl

@[simp] theorem State.noteRead_pc (s : State) (addr : Word) : (s.noteRead addr).pc = s.pc := rfl

@[simp] theorem State.noteRead_p (s : State) (addr : Word) : (s.noteRead addr).p = s.p := rfl

@[simp] theorem State.noteRead_mem (s : State) (addr : Word) : (s.noteRead addr).mem = s.mem := rfl

@[simp] theorem State.noteRead_nmiPending (s : State) (addr : Word) : (s.noteRead addr).nmiPending = s.nmiPending := rfl

@[simp] theorem State.noteRead_irqLine (s : State) (addr : Word) : (s.noteRead addr).irqLine = s.irqLine := rfl

@[simp] theorem State.noteRead_nmiLine (s : State) (addr : Word) : (s.noteRead addr).nmiLine = s.nmiLine := rfl

@[simp] theorem State.noteRead_resetLine (s : State) (addr : Word) : (s.noteRead addr).resetLine = s.resetLine := rfl

@[simp] theorem State.noteRead_resetPending (s : State) (addr : Word) : (s.noteRead addr).resetPending = s.resetPending := rfl

@[simp] theorem State.noteRead_schedule (s : State) (addr : Word) : (s.noteRead addr).schedule = s.schedule := rfl

@[simp] theorem State.noteRead_params (s : State) (addr : Word) : (s.noteRead addr).params = s.params := rfl

@[simp] theorem State.memWrite_a (s : State) (addr : Word) (v : Byte) : (s.memWrite addr v).a = s.a := rfl

@[simp] theorem State.memWrite_x (s : State) (addr : Word) (v : Byte) : (s.memWrite addr v).x = s.x := rfl

@[simp] theorem State.memWrite_y (s : State) (addr : Word) (v : Byte) : (s.memWrite addr v).y = s.y := rfl

@[simp] theorem State.memWrite_sp (s : State) (addr : Word) (v : Byte) : (s.memWrite addr v).sp = s.sp := rfl

@[simp] theorem State.memWrite_pc (s : State) (addr : Word) (v : Byte) : (s.memWrite addr v).pc = s.pc := rfl

@[simp] theorem State.memWrite_p (s : State) (addr : Word) (v : Byte) : (s.memWrite addr v).p = s.p := rfl

@[simp] theorem State.memWrite_nmiPending (s : State) (addr : Word) (v : Byte) : (s.memWrite addr v).nmiPending = s.nmiPending := rfl

@[simp] theorem State.memWrite_irqLine (s : State) (addr : Word) (v : Byte) : (s.memWrite addr v).irqLine = s.irqLine := rfl

@[simp] theorem State.memWrite_nmiLine (s : State) (addr : Word) (v : Byte) : (s.memWrite addr v).nmiLine = s.nmiLine := rfl

@[simp] theorem State.memWrite_resetLine (s : State) (addr : Word) (v : Byte) : (s.memWrite addr v).resetLine = s.resetLine := rfl

@[simp] theorem State.memWrite_resetPending (s : State) (addr : Word) (v : Byte) : (s.memWrite addr v).resetPending = s.resetPending := rfl

@[simp] theorem State.memWrite_schedule (s : State) (addr : Word) (v : Byte) : (s.memWrite addr v).schedule = s.schedule := rfl

@[simp] theorem State.memWrite_draws (s : State) (addr : Word) (v : Byte) : (s.memWrite addr v).draws = s.draws := rfl

@[simp] theorem State.memWrite_params (s : State) (addr : Word) (v : Byte) : (s.memWrite addr v).params = s.params := rfl

@[simp] theorem State.dummyRead_a (s : State) (addr : Word) : (s.dummyRead addr).a = s.a := by unfold State.dummyRead; split <;> rfl

@[simp] theorem State.dummyRead_x (s : State) (addr : Word) : (s.dummyRead addr).x = s.x := by unfold State.dummyRead; split <;> rfl

@[simp] theorem State.dummyRead_y (s : State) (addr : Word) : (s.dummyRead addr).y = s.y := by unfold State.dummyRead; split <;> rfl

@[simp] theorem State.dummyRead_sp (s : State) (addr : Word) : (s.dummyRead addr).sp = s.sp := by unfold State.dummyRead; split <;> rfl

@[simp] theorem State.dummyRead_pc (s : State) (addr : Word) : (s.dummyRead addr).pc = s.pc := by unfold State.dummyRead; split <;> rfl

@[simp] theorem State.dummyRead_p (s : State) (addr : Word) : (s.dummyRead addr).p = s.p := by unfold State.dummyRead; split <;> rfl

@[simp] theorem State.dummyRead_mem (s : State) (addr : Word) : (s.dummyRead addr).mem = s.mem := by unfold State.dummyRead; split <;> rfl

@[simp] theorem State.dummyRead_nmiPending (s : State) (addr : Word) : (s.dummyRead addr).nmiPending = s.nmiPending := by unfold State.dummyRead; split <;> rfl

@[simp] theorem State.dummyRead_irqLine (s : State) (addr : Word) : (s.dummyRead addr).irqLine = s.irqLine := by unfold State.dummyRead; split <;> rfl

@[simp] theorem State.dummyRead_nmiLine (s : State) (addr : Word) : (s.dummyRead addr).nmiLine = s.nmiLine := by unfold State.dummyRead; split <;> rfl

@[simp] theorem State.dummyRead_resetLine (s : State) (addr : Word) : (s.dummyRead addr).resetLine = s.resetLine := by unfold State.dummyRead; split <;> rfl

@[simp] theorem State.dummyRead_resetPending (s : State) (addr : Word) : (s.dummyRead addr).resetPending = s.resetPending := by unfold State.dummyRead; split <;> rfl

@[simp] theorem State.dummyRead_schedule (s : State) (addr : Word) : (s.dummyRead addr).schedule = s.schedule := by unfold State.dummyRead; split <;> rfl

@[simp] theorem State.dummyRead_params (s : State) (addr : Word) : (s.dummyRead addr).params = s.params := by unfold State.dummyRead; split <;> rfl

@[simp] theorem State.dummyWrite_a (s : State) (addr : Word) (v : Byte) : (s.dummyWrite addr v).a = s.a := by unfold State.dummyWrite; split <;> rfl

@[simp] theorem State.dummyWrite_x (s : State) (addr : Word) (v : Byte) : (s.dummyWrite addr v).x = s.x := by unfold State.dummyWrite; split <;> rfl

@[simp] theorem State.dummyWrite_y (s : State) (addr : Word) (v : Byte) : (s.dummyWrite addr v).y = s.y := by unfold State.dummyWrite; split <;> rfl

@[simp] theorem State.dummyWrite_sp (s : State) (addr : Word) (v : Byte) : (s.dummyWrite addr v).sp = s.sp := by unfold State.dummyWrite; split <;> rfl

@[simp] theorem State.dummyWrite_pc (s : State) (addr : Word) (v : Byte) : (s.dummyWrite addr v).pc = s.pc := by unfold State.dummyWrite; split <;> rfl

@[simp] theorem State.dummyWrite_p (s : State) (addr : Word) (v : Byte) : (s.dummyWrite addr v).p = s.p := by unfold State.dummyWrite; split <;> rfl

@[simp] theorem State.dummyWrite_nmiPending (s : State) (addr : Word) (v : Byte) : (s.dummyWrite addr v).nmiPending = s.nmiPending := by unfold State.dummyWrite; split <;> rfl

@[simp] theorem State.dummyWrite_irqLine (s : State) (addr : Word) (v : Byte) : (s.dummyWrite addr v).irqLine = s.irqLine := by unfold State.dummyWrite; split <;> rfl

@[simp] theorem State.dummyWrite_nmiLine (s : State) (addr : Word) (v : Byte) : (s.dummyWrite addr v).nmiLine = s.nmiLine := by unfold State.dummyWrite; split <;> rfl

@[simp] theorem State.dummyWrite_resetLine (s : State) (addr : Word) (v : Byte) : (s.dummyWrite addr v).resetLine = s.resetLine := by unfold State.dummyWrite; split <;> rfl

@[simp] theorem State.dummyWrite_resetPending (s : State) (addr : Word) (v : Byte) : (s.dummyWrite addr v).resetPending = s.resetPending := by unfold State.dummyWrite; split <;> rfl

@[simp] theorem State.dummyWrite_schedule (s : State) (addr : Word) (v : Byte) : (s.dummyWrite addr v).schedule = s.schedule := by unfold State.dummyWrite; split <;> rfl

@[simp] theorem State.dummyWrite_draws (s : State) (addr : Word) (v : Byte) : (s.dummyWrite addr v).draws = s.draws := by unfold State.dummyWrite; split <;> rfl

@[simp] theorem State.dummyWrite_params (s : State) (addr : Word) (v : Byte) : (s.dummyWrite addr v).params = s.params := by unfold State.dummyWrite; split <;> rfl

@[simp] theorem State.advance_a (s : State) (n : Nat) : (s.advance n).a = s.a := rfl

@[simp] theorem State.advance_x (s : State) (n : Nat) : (s.advance n).x = s.x := rfl

@[simp] theorem State.advance_y (s : State) (n : Nat) : (s.advance n).y = s.y := rfl

@[simp] theorem State.advance_sp (s : State) (n : Nat) : (s.advance n).sp = s.sp := rfl

@[simp] theorem State.advance_p (s : State) (n : Nat) : (s.advance n).p = s.p := rfl

@[simp] theorem State.advance_mem (s : State) (n : Nat) : (s.advance n).mem = s.mem := rfl

@[simp] theorem State.advance_nmiPending (s : State) (n : Nat) : (s.advance n).nmiPending = s.nmiPending := rfl

@[simp] theorem State.advance_irqLine (s : State) (n : Nat) : (s.advance n).irqLine = s.irqLine := rfl

@[simp] theorem State.advance_nmiLine (s : State) (n : Nat) : (s.advance n).nmiLine = s.nmiLine := rfl

@[simp] theorem State.advance_resetLine (s : State) (n : Nat) : (s.advance n).resetLine = s.resetLine := rfl

@[simp] theorem State.advance_resetPending (s : State) (n : Nat) : (s.advance n).resetPending = s.resetPending := rfl

@[simp] theorem State.advance_schedule (s : State) (n : Nat) : (s.advance n).schedule = s.schedule := rfl

@[simp] theorem State.advance_bus (s : State) (n : Nat) : (s.advance n).bus = s.bus := rfl

@[simp] theorem State.advance_draws (s : State) (n : Nat) : (s.advance n).draws = s.draws := rfl

@[simp] theorem State.advance_params (s : State) (n : Nat) : (s.advance n).params = s.params := rfl

@[simp] theorem State.loadA_x (s : State) (v : Byte) : (s.loadA v).x = s.x := rfl

@[simp] theorem State.loadA_y (s : State) (v : Byte) : (s.loadA v).y = s.y := rfl

@[simp] theorem State.loadA_sp (s : State) (v : Byte) : (s.loadA v).sp = s.sp := rfl

@[simp] theorem State.loadA_pc (s : State) (v : Byte) : (s.loadA v).pc = s.pc := rfl

@[simp] theorem State.loadA_mem (s : State) (v : Byte) : (s.loadA v).mem = s.mem := rfl

@[simp] theorem State.loadA_nmiPending (s : State) (v : Byte) : (s.loadA v).nmiPending = s.nmiPending := rfl

@[simp] theorem State.loadA_irqLine (s : State) (v : Byte) : (s.loadA v).irqLine = s.irqLine := rfl

@[simp] theorem State.loadA_nmiLine (s : State) (v : Byte) : (s.loadA v).nmiLine = s.nmiLine := rfl

@[simp] theorem State.loadA_resetLine (s : State) (v : Byte) : (s.loadA v).resetLine = s.resetLine := rfl

@[simp] theorem State.loadA_resetPending (s : State) (v : Byte) : (s.loadA v).resetPending = s.resetPending := rfl

@[simp] theorem State.loadA_schedule (s : State) (v : Byte) : (s.loadA v).schedule = s.schedule := rfl

@[simp] theorem State.loadA_bus (s : State) (v : Byte) : (s.loadA v).bus = s.bus := rfl

@[simp] theorem State.loadA_draws (s : State) (v : Byte) : (s.loadA v).draws = s.draws := rfl

@[simp] theorem State.loadA_params (s : State) (v : Byte) : (s.loadA v).params = s.params := rfl

@[simp] theorem State.loadX_a (s : State) (v : Byte) : (s.loadX v).a = s.a := rfl

@[simp] theorem State.loadX_y (s : State) (v : Byte) : (s.loadX v).y = s.y := rfl

@[simp] theorem State.loadX_sp (s : State) (v : Byte) : (s.loadX v).sp = s.sp := rfl

@[simp] theorem State.loadX_pc (s : State) (v : Byte) : (s.loadX v).pc = s.pc := rfl

@[simp] theorem State.loadX_mem (s : State) (v : Byte) : (s.loadX v).mem = s.mem := rfl

@[simp] theorem State.loadX_nmiPending (s : State) (v : Byte) : (s.loadX v).nmiPending = s.nmiPending := rfl

@[simp] theorem State.loadX_irqLine (s : State) (v : Byte) : (s.loadX v).irqLine = s.irqLine := rfl

@[simp] theorem State.loadX_nmiLine (s : State) (v : Byte) : (s.loadX v).nmiLine = s.nmiLine := rfl

@[simp] theorem State.loadX_resetLine (s : State) (v : Byte) : (s.loadX v).resetLine = s.resetLine := rfl

@[simp] theorem State.loadX_resetPending (s : State) (v : Byte) : (s.loadX v).resetPending = s.resetPending := rfl

@[simp] theorem State.loadX_schedule (s : State) (v : Byte) : (s.loadX v).schedule = s.schedule := rfl

@[simp] theorem State.loadX_bus (s : State) (v : Byte) : (s.loadX v).bus = s.bus := rfl

@[simp] theorem State.loadX_draws (s : State) (v : Byte) : (s.loadX v).draws = s.draws := rfl

@[simp] theorem State.loadX_params (s : State) (v : Byte) : (s.loadX v).params = s.params := rfl

@[simp] theorem State.loadY_a (s : State) (v : Byte) : (s.loadY v).a = s.a := rfl

@[simp] theorem State.loadY_x (s : State) (v : Byte) : (s.loadY v).x = s.x := rfl

@[simp] theorem State.loadY_sp (s : State) (v : Byte) : (s.loadY v).sp = s.sp := rfl

@[simp] theorem State.loadY_pc (s : State) (v : Byte) : (s.loadY v).pc = s.pc := rfl

@[simp] theorem State.loadY_mem (s : State) (v : Byte) : (s.loadY v).mem = s.mem := rfl

@[simp] theorem State.loadY_nmiPending (s : State) (v : Byte) : (s.loadY v).nmiPending = s.nmiPending := rfl

@[simp] theorem State.loadY_irqLine (s : State) (v : Byte) : (s.loadY v).irqLine = s.irqLine := rfl

@[simp] theorem State.loadY_nmiLine (s : State) (v : Byte) : (s.loadY v).nmiLine = s.nmiLine := rfl

@[simp] theorem State.loadY_resetLine (s : State) (v : Byte) : (s.loadY v).resetLine = s.resetLine := rfl

@[simp] theorem State.loadY_resetPending (s : State) (v : Byte) : (s.loadY v).resetPending = s.resetPending := rfl

@[simp] theorem State.loadY_schedule (s : State) (v : Byte) : (s.loadY v).schedule = s.schedule := rfl

@[simp] theorem State.loadY_bus (s : State) (v : Byte) : (s.loadY v).bus = s.bus := rfl

@[simp] theorem State.loadY_draws (s : State) (v : Byte) : (s.loadY v).draws = s.draws := rfl

@[simp] theorem State.loadY_params (s : State) (v : Byte) : (s.loadY v).params = s.params := rfl

@[simp] theorem State.push_a (s : State) (v : Byte) : (s.push v).a = s.a := rfl

@[simp] theorem State.push_x (s : State) (v : Byte) : (s.push v).x = s.x := rfl

@[simp] theorem State.push_y (s : State) (v : Byte) : (s.push v).y = s.y := rfl

@[simp] theorem State.push_pc (s : State) (v : Byte) : (s.push v).pc = s.pc := rfl

@[simp] theorem State.push_p (s : State) (v : Byte) : (s.push v).p = s.p := rfl

@[simp] theorem State.push_nmiPending (s : State) (v : Byte) : (s.push v).nmiPending = s.nmiPending := rfl

@[simp] theorem State.push_irqLine (s : State) (v : Byte) : (s.push v).irqLine = s.irqLine := rfl

@[simp] theorem State.push_nmiLine (s : State) (v : Byte) : (s.push v).nmiLine = s.nmiLine := rfl

@[simp] theorem State.push_resetLine (s : State) (v : Byte) : (s.push v).resetLine = s.resetLine := rfl

@[simp] theorem State.push_resetPending (s : State) (v : Byte) : (s.push v).resetPending = s.resetPending := rfl

@[simp] theorem State.push_schedule (s : State) (v : Byte) : (s.push v).schedule = s.schedule := rfl

@[simp] theorem State.push_draws (s : State) (v : Byte) : (s.push v).draws = s.draws := rfl

@[simp] theorem State.push_params (s : State) (v : Byte) : (s.push v).params = s.params := rfl

@[simp] theorem State.implied_a (s : State) : s.implied.a = s.a := by simp [State.implied]

@[simp] theorem State.implied_x (s : State) : s.implied.x = s.x := by simp [State.implied]

@[simp] theorem State.implied_y (s : State) : s.implied.y = s.y := by simp [State.implied]

@[simp] theorem State.implied_sp (s : State) : s.implied.sp = s.sp := by simp [State.implied]

@[simp] theorem State.implied_p (s : State) : s.implied.p = s.p := by simp [State.implied]

@[simp] theorem State.implied_mem (s : State) : s.implied.mem = s.mem := by simp [State.implied]

@[simp] theorem State.implied_nmiPending (s : State) : s.implied.nmiPending = s.nmiPending := by simp [State.implied]

@[simp] theorem State.implied_irqLine (s : State) : s.implied.irqLine = s.irqLine := by simp [State.implied]

@[simp] theorem State.implied_nmiLine (s : State) : s.implied.nmiLine = s.nmiLine := by simp [State.implied]

@[simp] theorem State.implied_resetLine (s : State) : s.implied.resetLine = s.resetLine := by simp [State.implied]

@[simp] theorem State.implied_resetPending (s : State) : s.implied.resetPending = s.resetPending := by simp [State.implied]

@[simp] theorem State.implied_schedule (s : State) : s.implied.schedule = s.schedule := by simp [State.implied]

@[simp] theorem State.implied_params (s : State) : s.implied.params = s.params := by simp [State.implied]

@[simp] theorem State.writeArith_x (s : State) (r : Arith) : (s.writeArith r).x = s.x := rfl

@[simp] theorem State.writeArith_y (s : State) (r : Arith) : (s.writeArith r).y = s.y := rfl

@[simp] theorem State.writeArith_sp (s : State) (r : Arith) : (s.writeArith r).sp = s.sp := rfl

@[simp] theorem State.writeArith_pc (s : State) (r : Arith) : (s.writeArith r).pc = s.pc := rfl

@[simp] theorem State.writeArith_mem (s : State) (r : Arith) : (s.writeArith r).mem = s.mem := rfl

@[simp] theorem State.writeArith_nmiPending (s : State) (r : Arith) : (s.writeArith r).nmiPending = s.nmiPending := rfl

@[simp] theorem State.writeArith_irqLine (s : State) (r : Arith) : (s.writeArith r).irqLine = s.irqLine := rfl

@[simp] theorem State.writeArith_nmiLine (s : State) (r : Arith) : (s.writeArith r).nmiLine = s.nmiLine := rfl

@[simp] theorem State.writeArith_resetLine (s : State) (r : Arith) : (s.writeArith r).resetLine = s.resetLine := rfl

@[simp] theorem State.writeArith_resetPending (s : State) (r : Arith) : (s.writeArith r).resetPending = s.resetPending := rfl

@[simp] theorem State.writeArith_schedule (s : State) (r : Arith) : (s.writeArith r).schedule = s.schedule := rfl

@[simp] theorem State.writeArith_bus (s : State) (r : Arith) : (s.writeArith r).bus = s.bus := rfl

@[simp] theorem State.writeArith_draws (s : State) (r : Arith) : (s.writeArith r).draws = s.draws := rfl

@[simp] theorem State.writeArith_params (s : State) (r : Arith) : (s.writeArith r).params = s.params := rfl

@[simp] theorem State.entered_a (s : State) (ret : Word) (b : Bool) : (s.entered ret b).a = s.a := rfl

@[simp] theorem State.entered_x (s : State) (ret : Word) (b : Bool) : (s.entered ret b).x = s.x := rfl

@[simp] theorem State.entered_y (s : State) (ret : Word) (b : Bool) : (s.entered ret b).y = s.y := rfl

@[simp] theorem State.entered_pc (s : State) (ret : Word) (b : Bool) : (s.entered ret b).pc = s.pc := rfl

@[simp] theorem State.entered_nmiPending (s : State) (ret : Word) (b : Bool) : (s.entered ret b).nmiPending = s.nmiPending := rfl

@[simp] theorem State.entered_irqLine (s : State) (ret : Word) (b : Bool) : (s.entered ret b).irqLine = s.irqLine := rfl

@[simp] theorem State.entered_nmiLine (s : State) (ret : Word) (b : Bool) : (s.entered ret b).nmiLine = s.nmiLine := rfl

@[simp] theorem State.entered_resetLine (s : State) (ret : Word) (b : Bool) : (s.entered ret b).resetLine = s.resetLine := rfl

@[simp] theorem State.entered_resetPending (s : State) (ret : Word) (b : Bool) : (s.entered ret b).resetPending = s.resetPending := rfl

@[simp] theorem State.entered_schedule (s : State) (ret : Word) (b : Bool) : (s.entered ret b).schedule = s.schedule := rfl

@[simp] theorem State.entered_draws (s : State) (ret : Word) (b : Bool) : (s.entered ret b).draws = s.draws := rfl

@[simp] theorem State.entered_params (s : State) (ret : Word) (b : Bool) : (s.entered ret b).params = s.params := rfl

@[simp] theorem State.jumpThrough_a (s : State) (vec : Word) : (s.jumpThrough vec).a = s.a := rfl

@[simp] theorem State.jumpThrough_x (s : State) (vec : Word) : (s.jumpThrough vec).x = s.x := rfl

@[simp] theorem State.jumpThrough_y (s : State) (vec : Word) : (s.jumpThrough vec).y = s.y := rfl

@[simp] theorem State.jumpThrough_sp (s : State) (vec : Word) : (s.jumpThrough vec).sp = s.sp := rfl

@[simp] theorem State.jumpThrough_p (s : State) (vec : Word) : (s.jumpThrough vec).p = s.p := rfl

@[simp] theorem State.jumpThrough_mem (s : State) (vec : Word) : (s.jumpThrough vec).mem = s.mem := rfl

@[simp] theorem State.jumpThrough_nmiPending (s : State) (vec : Word) : (s.jumpThrough vec).nmiPending = s.nmiPending := rfl

@[simp] theorem State.jumpThrough_irqLine (s : State) (vec : Word) : (s.jumpThrough vec).irqLine = s.irqLine := rfl

@[simp] theorem State.jumpThrough_nmiLine (s : State) (vec : Word) : (s.jumpThrough vec).nmiLine = s.nmiLine := rfl

@[simp] theorem State.jumpThrough_resetLine (s : State) (vec : Word) : (s.jumpThrough vec).resetLine = s.resetLine := rfl

@[simp] theorem State.jumpThrough_resetPending (s : State) (vec : Word) : (s.jumpThrough vec).resetPending = s.resetPending := rfl

@[simp] theorem State.jumpThrough_schedule (s : State) (vec : Word) : (s.jumpThrough vec).schedule = s.schedule := rfl

@[simp] theorem State.jumpThrough_params (s : State) (vec : Word) : (s.jumpThrough vec).params = s.params := rfl

/-! ## The fields an operation writes -/

@[simp] theorem State.advance_pc (s : State) (n : Nat) : (s.advance n).pc = s.pc + BitVec.ofNat 16 n := rfl

@[simp] theorem State.implied_pc (s : State) : s.implied.pc = s.pc + 1 := by simp [State.implied]

@[simp] theorem State.loadA_a (s : State) (v : Byte) : (s.loadA v).a = v := rfl

@[simp] theorem State.loadX_x (s : State) (v : Byte) : (s.loadX v).x = v := rfl

@[simp] theorem State.loadY_y (s : State) (v : Byte) : (s.loadY v).y = v := rfl

@[simp] theorem State.loadA_p (s : State) (v : Byte) : (s.loadA v).p = s.p.setNZ v := rfl

@[simp] theorem State.loadX_p (s : State) (v : Byte) : (s.loadX v).p = s.p.setNZ v := rfl

@[simp] theorem State.loadY_p (s : State) (v : Byte) : (s.loadY v).p = s.p.setNZ v := rfl

@[simp] theorem State.push_sp (s : State) (v : Byte) : (s.push v).sp = s.sp - 1 := rfl

@[simp] theorem State.entered_sp (s : State) (ret : Word) (b : Bool) : (s.entered ret b).sp = s.sp - 1 - 1 - 1 := rfl

@[simp] theorem State.entered_p (s : State) (ret : Word) (b : Bool) :
    (s.entered ret b).p = { s.p with i := true } := rfl

@[simp] theorem State.jumpThrough_pc (s : State) (vec : Word) :
    (s.jumpThrough vec).pc = hiLo ((s.noteRead vec).peek (vec + 1)) (s.peek vec) := rfl

@[simp] theorem State.writeArith_a (s : State) (r : Arith) : (s.writeArith r).a = r.value := rfl

@[simp] theorem State.memRead_fst (s : State) (addr : Word) : (s.memRead addr).1 = s.peek addr := rfl

@[simp] theorem State.memRead_snd (s : State) (addr : Word) : (s.memRead addr).2 = s.noteRead addr := rfl

/-! ## Flags -/

@[simp] theorem Flags.setNZ_n (p : Flags) (v : Byte) : (p.setNZ v).n = v.getLsbD 7 := rfl

@[simp] theorem Flags.setNZ_z (p : Flags) (v : Byte) : (p.setNZ v).z = (v == 0x00#8) := rfl

@[simp] theorem Flags.setNZ_v (p : Flags) (v : Byte) : (p.setNZ v).v = p.v := rfl

@[simp] theorem Flags.setNZ_d (p : Flags) (v : Byte) : (p.setNZ v).d = p.d := rfl

@[simp] theorem Flags.setNZ_i (p : Flags) (v : Byte) : (p.setNZ v).i = p.i := rfl

@[simp] theorem Flags.setNZ_c (p : Flags) (v : Byte) : (p.setNZ v).c = p.c := rfl

/-! ## What depends on few fields -/

theorem State.kindAt_of_params_eq {s t : State} (h : t.params = s.params) (addr : Word) : t.kindAt addr = s.kindAt addr := by
  simp [State.kindAt, h]

theorem State.byteAt_of_mem_eq {s t : State} (h : t.mem = s.mem) (addr : Word) : t.byteAt addr = s.byteAt addr := by
  simp [State.byteAt, h]

theorem State.performsDummies_of_params_eq {s t : State} (h : t.params = s.params) : t.performsDummies = s.performsDummies := by
  simp [State.performsDummies, h]

/-- A read of RAM or ROM delivers memory's byte (R57). -/
theorem State.peek_of_backed {s : State} {addr : Word} (h : backed (s.kindAt addr) = true) : s.peek addr = s.byteAt addr := by
  simp [State.peek, h]

@[simp] theorem State.kindAt_noteRead (s : State) (addr : Word) (there : Word) : (s.noteRead addr).kindAt there = s.kindAt there :=
  State.kindAt_of_params_eq (by simp) there

@[simp] theorem State.performsDummies_noteRead (s : State) (addr : Word) : (s.noteRead addr).performsDummies = s.performsDummies :=
  State.performsDummies_of_params_eq (by simp)

@[simp] theorem State.byteAt_noteRead (s : State) (addr : Word) (there : Word) : (s.noteRead addr).byteAt there = s.byteAt there :=
  State.byteAt_of_mem_eq (by simp) there

@[simp] theorem State.kindAt_memWrite (s : State) (addr : Word) (v : Byte) (there : Word) : (s.memWrite addr v).kindAt there = s.kindAt there :=
  State.kindAt_of_params_eq (by simp) there

@[simp] theorem State.performsDummies_memWrite (s : State) (addr : Word) (v : Byte) : (s.memWrite addr v).performsDummies = s.performsDummies :=
  State.performsDummies_of_params_eq (by simp)

@[simp] theorem State.kindAt_dummyRead (s : State) (addr : Word) (there : Word) : (s.dummyRead addr).kindAt there = s.kindAt there :=
  State.kindAt_of_params_eq (by simp) there

@[simp] theorem State.performsDummies_dummyRead (s : State) (addr : Word) : (s.dummyRead addr).performsDummies = s.performsDummies :=
  State.performsDummies_of_params_eq (by simp)

@[simp] theorem State.byteAt_dummyRead (s : State) (addr : Word) (there : Word) : (s.dummyRead addr).byteAt there = s.byteAt there :=
  State.byteAt_of_mem_eq (by simp) there

@[simp] theorem State.kindAt_dummyWrite (s : State) (addr : Word) (v : Byte) (there : Word) : (s.dummyWrite addr v).kindAt there = s.kindAt there :=
  State.kindAt_of_params_eq (by simp) there

@[simp] theorem State.performsDummies_dummyWrite (s : State) (addr : Word) (v : Byte) : (s.dummyWrite addr v).performsDummies = s.performsDummies :=
  State.performsDummies_of_params_eq (by simp)

@[simp] theorem State.kindAt_advance (s : State) (n : Nat) (there : Word) : (s.advance n).kindAt there = s.kindAt there :=
  State.kindAt_of_params_eq (by simp) there

@[simp] theorem State.performsDummies_advance (s : State) (n : Nat) : (s.advance n).performsDummies = s.performsDummies :=
  State.performsDummies_of_params_eq (by simp)

@[simp] theorem State.byteAt_advance (s : State) (n : Nat) (there : Word) : (s.advance n).byteAt there = s.byteAt there :=
  State.byteAt_of_mem_eq (by simp) there

@[simp] theorem State.kindAt_loadA (s : State) (v : Byte) (there : Word) : (s.loadA v).kindAt there = s.kindAt there :=
  State.kindAt_of_params_eq (by simp) there

@[simp] theorem State.performsDummies_loadA (s : State) (v : Byte) : (s.loadA v).performsDummies = s.performsDummies :=
  State.performsDummies_of_params_eq (by simp)

@[simp] theorem State.byteAt_loadA (s : State) (v : Byte) (there : Word) : (s.loadA v).byteAt there = s.byteAt there :=
  State.byteAt_of_mem_eq (by simp) there

@[simp] theorem State.kindAt_loadX (s : State) (v : Byte) (there : Word) : (s.loadX v).kindAt there = s.kindAt there :=
  State.kindAt_of_params_eq (by simp) there

@[simp] theorem State.performsDummies_loadX (s : State) (v : Byte) : (s.loadX v).performsDummies = s.performsDummies :=
  State.performsDummies_of_params_eq (by simp)

@[simp] theorem State.byteAt_loadX (s : State) (v : Byte) (there : Word) : (s.loadX v).byteAt there = s.byteAt there :=
  State.byteAt_of_mem_eq (by simp) there

@[simp] theorem State.kindAt_loadY (s : State) (v : Byte) (there : Word) : (s.loadY v).kindAt there = s.kindAt there :=
  State.kindAt_of_params_eq (by simp) there

@[simp] theorem State.performsDummies_loadY (s : State) (v : Byte) : (s.loadY v).performsDummies = s.performsDummies :=
  State.performsDummies_of_params_eq (by simp)

@[simp] theorem State.byteAt_loadY (s : State) (v : Byte) (there : Word) : (s.loadY v).byteAt there = s.byteAt there :=
  State.byteAt_of_mem_eq (by simp) there

@[simp] theorem State.kindAt_push (s : State) (v : Byte) (there : Word) : (s.push v).kindAt there = s.kindAt there :=
  State.kindAt_of_params_eq (by simp) there

@[simp] theorem State.performsDummies_push (s : State) (v : Byte) : (s.push v).performsDummies = s.performsDummies :=
  State.performsDummies_of_params_eq (by simp)

@[simp] theorem State.kindAt_implied (s : State) (there : Word) : s.implied.kindAt there = s.kindAt there :=
  State.kindAt_of_params_eq (by simp) there

@[simp] theorem State.performsDummies_implied (s : State) : s.implied.performsDummies = s.performsDummies :=
  State.performsDummies_of_params_eq (by simp)

@[simp] theorem State.byteAt_implied (s : State) (there : Word) : s.implied.byteAt there = s.byteAt there :=
  State.byteAt_of_mem_eq (by simp) there

@[simp] theorem State.kindAt_writeArith (s : State) (r : Arith) (there : Word) : (s.writeArith r).kindAt there = s.kindAt there :=
  State.kindAt_of_params_eq (by simp) there

@[simp] theorem State.performsDummies_writeArith (s : State) (r : Arith) : (s.writeArith r).performsDummies = s.performsDummies :=
  State.performsDummies_of_params_eq (by simp)

@[simp] theorem State.byteAt_writeArith (s : State) (r : Arith) (there : Word) : (s.writeArith r).byteAt there = s.byteAt there :=
  State.byteAt_of_mem_eq (by simp) there

@[simp] theorem State.kindAt_entered (s : State) (ret : Word) (b : Bool) (there : Word) : (s.entered ret b).kindAt there = s.kindAt there :=
  State.kindAt_of_params_eq (by simp) there

@[simp] theorem State.performsDummies_entered (s : State) (ret : Word) (b : Bool) : (s.entered ret b).performsDummies = s.performsDummies :=
  State.performsDummies_of_params_eq (by simp)

@[simp] theorem State.kindAt_jumpThrough (s : State) (vec : Word) (there : Word) : (s.jumpThrough vec).kindAt there = s.kindAt there :=
  State.kindAt_of_params_eq (by simp) there

@[simp] theorem State.performsDummies_jumpThrough (s : State) (vec : Word) : (s.jumpThrough vec).performsDummies = s.performsDummies :=
  State.performsDummies_of_params_eq (by simp)

@[simp] theorem State.byteAt_jumpThrough (s : State) (vec : Word) (there : Word) : (s.jumpThrough vec).byteAt there = s.byteAt there :=
  State.byteAt_of_mem_eq (by simp) there

/-! ## The state after a pull -/

@[simp] theorem State.pull_a (s : State) : s.pull.2.a = s.a := rfl

@[simp] theorem State.pull_x (s : State) : s.pull.2.x = s.x := rfl

@[simp] theorem State.pull_y (s : State) : s.pull.2.y = s.y := rfl

@[simp] theorem State.pull_pc (s : State) : s.pull.2.pc = s.pc := rfl

@[simp] theorem State.pull_p (s : State) : s.pull.2.p = s.p := rfl

@[simp] theorem State.pull_mem (s : State) : s.pull.2.mem = s.mem := rfl

@[simp] theorem State.pull_nmiPending (s : State) : s.pull.2.nmiPending = s.nmiPending := rfl

@[simp] theorem State.pull_irqLine (s : State) : s.pull.2.irqLine = s.irqLine := rfl

@[simp] theorem State.pull_nmiLine (s : State) : s.pull.2.nmiLine = s.nmiLine := rfl

@[simp] theorem State.pull_resetLine (s : State) : s.pull.2.resetLine = s.resetLine := rfl

@[simp] theorem State.pull_resetPending (s : State) : s.pull.2.resetPending = s.resetPending := rfl

@[simp] theorem State.pull_schedule (s : State) : s.pull.2.schedule = s.schedule := rfl

@[simp] theorem State.pull_params (s : State) : s.pull.2.params = s.params := rfl

@[simp] theorem State.pull_sp (s : State) : s.pull.2.sp = s.sp + 1 := rfl

@[simp] theorem State.kindAt_pull (s : State) (there : Word) : s.pull.2.kindAt there = s.kindAt there := rfl

@[simp] theorem State.byteAt_pull (s : State) (there : Word) : s.pull.2.byteAt there = s.byteAt there := rfl

@[simp] theorem State.performsDummies_pull (s : State) : s.pull.2.performsDummies = s.performsDummies := rfl

end Sys2Proof.Machine
end

