-- ==== Sys2Proof/Laws/Ops.lean ====
section
/-! SUPPORT. For each shared operation, one lemma that says once everything it can do. -/

namespace Sys2Proof.Machine

/-! ## Bytes and words -/

@[simp] theorem hiByte_hiLo (hi lo : Byte) : hiByte (hiLo hi lo) = hi := by
  apply BitVec.eq_of_getLsbD_eq
  intro i h
  have h1 : ¬ 8 + i < 8 := by omega
  have h2 : 8 + i < 16 := by omega
  have h3 : i < 16 := by omega
  simp [hiByte, hiLo, h, h1, h2, h3]

@[simp] theorem loByte_hiLo (hi lo : Byte) : loByte (hiLo hi lo) = lo := by
  apply BitVec.eq_of_getLsbD_eq
  intro i h
  simp [loByte, hiLo, h]

@[simp] theorem hiLo_hiByte_loByte (w : Word) : hiLo (hiByte w) (loByte w) = w := by
  apply BitVec.eq_of_getLsbD_eq
  intro i h
  by_cases h8 : i < 8
  · simp [hiByte, loByte, hiLo, h, h8]
  · have h1 : 8 + (i - 8) = i := by omega
    have h2 : i - 8 < 8 := by omega
    simp [hiByte, loByte, hiLo, h, h8, h1, h2]

theorem hiLo_injective {hi lo hi' lo' : Byte} (h : hiLo hi lo = hiLo hi' lo') : hi = hi' ∧ lo = lo' :=
  ⟨by simpa using congrArg hiByte h, by simpa using congrArg loByte h⟩

/-- Two stack addresses agree only when their low bytes do (R52). -/
@[simp] theorem stackAddr_inj {b c : Byte} : stackAddr b = stackAddr c ↔ b = c :=
  ⟨fun h => (hiLo_injective h).2, fun h => h ▸ rfl⟩

/-! ## Bus accesses -/

/-- The two states differ in the history and the count of free values alone. -/
def BusOnly (s t : State) : Prop := t = { s with bus := t.bus, draws := t.draws }

theorem BusOnly.refl (s : State) : BusOnly s s := rfl

theorem BusOnly.trans {s t u : State} (h : BusOnly s t) (h' : BusOnly t u) : BusOnly s u := by
  unfold BusOnly at *; rw [h', h]

theorem BusOnly.a {s t : State} (h : BusOnly s t) : t.a = s.a := by rw [h]

theorem BusOnly.x {s t : State} (h : BusOnly s t) : t.x = s.x := by rw [h]

theorem BusOnly.y {s t : State} (h : BusOnly s t) : t.y = s.y := by rw [h]

theorem BusOnly.sp {s t : State} (h : BusOnly s t) : t.sp = s.sp := by rw [h]

theorem BusOnly.pc {s t : State} (h : BusOnly s t) : t.pc = s.pc := by rw [h]

theorem BusOnly.p {s t : State} (h : BusOnly s t) : t.p = s.p := by rw [h]

theorem BusOnly.mem {s t : State} (h : BusOnly s t) : t.mem = s.mem := by rw [h]

theorem BusOnly.nmiPending {s t : State} (h : BusOnly s t) : t.nmiPending = s.nmiPending := by rw [h]

theorem BusOnly.irqLine {s t : State} (h : BusOnly s t) : t.irqLine = s.irqLine := by rw [h]

theorem BusOnly.nmiLine {s t : State} (h : BusOnly s t) : t.nmiLine = s.nmiLine := by rw [h]

theorem BusOnly.resetLine {s t : State} (h : BusOnly s t) : t.resetLine = s.resetLine := by rw [h]

theorem BusOnly.resetPending {s t : State} (h : BusOnly s t) : t.resetPending = s.resetPending := by rw [h]

theorem BusOnly.schedule {s t : State} (h : BusOnly s t) : t.schedule = s.schedule := by rw [h]

theorem BusOnly.params {s t : State} (h : BusOnly s t) : t.params = s.params := by rw [h]

theorem State.noteRead_busOnly (s : State) (addr : Word) : BusOnly s (s.noteRead addr) := rfl

theorem State.dummyRead_busOnly (s : State) (addr : Word) : BusOnly s (s.dummyRead addr) := by
  unfold State.dummyRead; split
  · exact s.noteRead_busOnly addr
  · exact BusOnly.refl s

/-- A byte of memory after a write: RAM takes it, nothing else does, and every other byte stays (R58). -/
theorem State.byteAt_memWrite (s : State) (addr there : Word) (v : Byte) :
    (s.memWrite addr v).byteAt there = if there = addr ∧ s.kindAt addr = .ram then v else s.byteAt there := by
  unfold State.byteAt State.memWrite
  by_cases hk : s.kindAt addr = .ram
  · by_cases h : there = addr
    · subst h; simp [hk]
    · have : there.toNat ≠ addr.toNat := fun h' => h (BitVec.eq_of_toNat_eq h')
      simp [hk, h, Memory.read_write_other _ _ this]
  · simp [hk]

/-- A byte of memory after the redundant write of the byte that stands there: unchanged (R61). -/
theorem State.byteAt_dummyWrite (s : State) (addr there : Word) (v : Byte) (h : s.kindAt addr = .ram → v = s.byteAt addr) :
    (s.dummyWrite addr v).byteAt there = s.byteAt there := by
  unfold State.dummyWrite; split
  · rw [State.byteAt_memWrite]; split
    next h' => rw [h'.1, h h'.2]
    next => rfl
  · rfl

theorem State.memWrite_wf {s : State} (addr : Word) (v : Byte) (h : s.mem.wf = true) : (s.memWrite addr v).mem.wf = true := by
  unfold State.memWrite; dsimp only; split
  · exact Memory.wf_write v h addr.isLt
  · exact h

theorem State.dummyWrite_wf {s : State} (addr : Word) (v : Byte) (h : s.mem.wf = true) : (s.dummyWrite addr v).mem.wf = true := by
  unfold State.dummyWrite; split
  · exact s.memWrite_wf addr v h
  · exact h

/-! ## The stack -/

/-- A byte of memory after a push (R62). -/
theorem State.byteAt_push (s : State) (v : Byte) (there : Word) :
    (s.push v).byteAt there =
      if there = stackAddr s.sp ∧ s.kindAt (stackAddr s.sp) = .ram then v else s.byteAt there :=
  State.byteAt_memWrite s (stackAddr s.sp) there v

theorem State.push_wf {s : State} (v : Byte) (h : s.mem.wf = true) : (s.push v).mem.wf = true :=
  s.memWrite_wf (stackAddr s.sp) v h

/-- What a pull delivers from RAM or ROM (R63). -/
theorem State.pull_fst_of_backed {s : State} (h : backed (s.kindAt (stackAddr (s.sp + 1))) = true) :
    s.pull.1 = s.byteAt (stackAddr (s.sp + 1)) :=
  State.peek_of_backed (s := { s with sp := s.sp + 1 }) h

/-- A pull moves S up and changes no memory (R63). -/
theorem State.pull_snd (s : State) :
    s.pull.2 = { s with sp := s.sp + 1, bus := s.pull.2.bus, draws := s.pull.2.draws } := rfl

/-- A pull after a push gives the byte pushed, when it went into RAM (R63). -/
theorem State.pull_push {s : State} (v : Byte) (h : s.kindAt (stackAddr s.sp) = .ram) : (s.push v).pull.1 = v := by
  have hback : backed ((s.push v).kindAt (stackAddr ((s.push v).sp + 1))) = true := by simp [h, backed]
  rw [State.pull_fst_of_backed hback, State.byteAt_push]
  simp [h]

/-! ## Interrupt entry and return -/

/-- Going through a vector changes PC alone, but for the history (R318). -/
theorem State.jumpThrough_spec (s : State) (vec : Word) :
    s.jumpThrough vec = { s with
      pc := hiLo ((s.noteRead vec).peek (vec + 1)) (s.peek vec)
      bus := (s.jumpThrough vec).bus
      draws := (s.jumpThrough vec).draws } := rfl

/-- An interrupt entry: S lower by 3, I set, PC through the vector, memory and history as the pushes
and the two vector reads leave them, and every other field as before (R318). -/
theorem State.enterInterrupt_spec (s : State) (ret : Word) (b : Bool) (vec : Word) :
    s.enterInterrupt ret b vec = { s with
      sp := s.sp - 1 - 1 - 1
      p := { s.p with i := true }
      pc := hiLo (((s.entered ret b).noteRead vec).peek (vec + 1)) ((s.entered ret b).peek vec)
      mem := (s.entered ret b).mem
      bus := (s.enterInterrupt ret b vec).bus
      draws := (s.enterInterrupt ret b vec).draws } := by
  apply State.ext <;> simp [State.enterInterrupt]

/-- A byte of memory after an interrupt entry's three pushes (R318). -/
theorem State.byteAt_entered (s : State) (ret : Word) (b : Bool) (there : Word) :
    (s.entered ret b).byteAt there =
      if there = stackAddr (s.sp - 1 - 1) ∧ s.kindAt there = .ram then s.p.pack b
      else if there = stackAddr (s.sp - 1) ∧ s.kindAt there = .ram then loByte ret
      else if there = stackAddr s.sp ∧ s.kindAt there = .ram then hiByte ret
      else s.byteAt there := by
  have h : (s.entered ret b).byteAt there = (((s.push (hiByte ret)).push (loByte ret)).push (s.p.pack b)).byteAt there := rfl
  have hand : ∀ addr : Word, (there = addr ∧ s.kindAt addr = .ram) = (there = addr ∧ s.kindAt there = .ram) := by
    intro addr
    exact propext ⟨fun h => ⟨h.1, h.1 ▸ h.2⟩, fun h => ⟨h.1, h.1 ▸ h.2⟩⟩
  rw [h, State.byteAt_push, State.byteAt_push, State.byteAt_push]
  simp only [State.push_sp, State.kindAt_push, hand]

theorem State.enterInterrupt_wf {s : State} (ret : Word) (b : Bool) (vec : Word) (h : s.mem.wf = true) :
    (s.enterInterrupt ret b vec).mem.wf = true :=
  State.push_wf (s := (s.push (hiByte ret)).push (loByte ret)) _ (State.push_wf _ (State.push_wf _ h))

/-- A return from interrupt: S higher by 3, P and PC pulled, memory and every other field as before (R214). -/
theorem State.returnFromInterrupt_spec (s : State) :
    s.returnFromInterrupt = { s with
      sp := s.sp + 1 + 1 + 1
      p := Flags.unpack s.pull.1
      pc := hiLo s.pull.2.pull.2.pull.1 s.pull.2.pull.1
      bus := s.returnFromInterrupt.bus
      draws := s.returnFromInterrupt.draws } := by
  ext <;> rfl

/-- Unpacking a packed P gives the six flags back, whatever the break bit (R35). -/
@[simp] theorem Flags.unpack_pack (p : Flags) (b : Bool) : Flags.unpack (p.pack b) = p := by
  rcases p with ⟨n, v, d, i, z, c⟩
  cases n <;> cases v <;> cases d <;> cases i <;> cases z <;> cases c <;> cases b <;> rfl

/-! ## Addressing modes and instruction shapes -/

theorem State.indexed_busOnly (s : State) (k : Access) (base : Word) (index : Byte) : BusOnly s (s.indexed k base index).state := by
  unfold State.indexed; dsimp only; split
  · exact s.dummyRead_busOnly _
  · exact BusOnly.refl s

theorem State.zeroPagePointer_busOnly (s : State) (ptr : Byte) : BusOnly s (s.zeroPagePointer ptr).2 := rfl

/-- A mode's own accesses change nothing but the history and the count of free values (R110). -/
theorem Mode.resolve_busOnly (m : Mode) (k : Access) (s : State) : BusOnly s (m.resolve k s).state := by
  cases m with
  | zp oper => exact BusOnly.refl s
  | zpx oper => exact s.dummyRead_busOnly _
  | zpy oper => exact s.dummyRead_busOnly _
  | abs oper => exact BusOnly.refl s
  | abx oper => exact s.indexed_busOnly _ _ _
  | aby oper => exact s.indexed_busOnly _ _ _
  | izx oper => exact (s.dummyRead_busOnly _).trans (State.zeroPagePointer_busOnly _ _)
  | izy oper => exact (State.zeroPagePointer_busOnly _ _).trans (State.indexed_busOnly _ _ _ _)

@[simp] theorem Mode.resolve_a (m : Mode) (k : Access) (s : State) : (m.resolve k s).state.a = s.a :=
  (m.resolve_busOnly k s).a

@[simp] theorem Mode.resolve_x (m : Mode) (k : Access) (s : State) : (m.resolve k s).state.x = s.x :=
  (m.resolve_busOnly k s).x

@[simp] theorem Mode.resolve_y (m : Mode) (k : Access) (s : State) : (m.resolve k s).state.y = s.y :=
  (m.resolve_busOnly k s).y

@[simp] theorem Mode.resolve_sp (m : Mode) (k : Access) (s : State) : (m.resolve k s).state.sp = s.sp :=
  (m.resolve_busOnly k s).sp

@[simp] theorem Mode.resolve_pc (m : Mode) (k : Access) (s : State) : (m.resolve k s).state.pc = s.pc :=
  (m.resolve_busOnly k s).pc

@[simp] theorem Mode.resolve_p (m : Mode) (k : Access) (s : State) : (m.resolve k s).state.p = s.p :=
  (m.resolve_busOnly k s).p

@[simp] theorem Mode.resolve_mem (m : Mode) (k : Access) (s : State) : (m.resolve k s).state.mem = s.mem :=
  (m.resolve_busOnly k s).mem

@[simp] theorem Mode.resolve_nmiPending (m : Mode) (k : Access) (s : State) : (m.resolve k s).state.nmiPending = s.nmiPending :=
  (m.resolve_busOnly k s).nmiPending

@[simp] theorem Mode.resolve_irqLine (m : Mode) (k : Access) (s : State) : (m.resolve k s).state.irqLine = s.irqLine :=
  (m.resolve_busOnly k s).irqLine

@[simp] theorem Mode.resolve_nmiLine (m : Mode) (k : Access) (s : State) : (m.resolve k s).state.nmiLine = s.nmiLine :=
  (m.resolve_busOnly k s).nmiLine

@[simp] theorem Mode.resolve_resetLine (m : Mode) (k : Access) (s : State) : (m.resolve k s).state.resetLine = s.resetLine :=
  (m.resolve_busOnly k s).resetLine

@[simp] theorem Mode.resolve_resetPending (m : Mode) (k : Access) (s : State) : (m.resolve k s).state.resetPending = s.resetPending :=
  (m.resolve_busOnly k s).resetPending

@[simp] theorem Mode.resolve_schedule (m : Mode) (k : Access) (s : State) : (m.resolve k s).state.schedule = s.schedule :=
  (m.resolve_busOnly k s).schedule

@[simp] theorem Mode.resolve_params (m : Mode) (k : Access) (s : State) : (m.resolve k s).state.params = s.params :=
  (m.resolve_busOnly k s).params

@[simp] theorem Mode.kindAt_resolve (m : Mode) (k : Access) (s : State) (there : Word) :
    (m.resolve k s).state.kindAt there = s.kindAt there := State.kindAt_of_params_eq (by simp) there

@[simp] theorem Mode.byteAt_resolve (m : Mode) (k : Access) (s : State) (there : Word) :
    (m.resolve k s).state.byteAt there = s.byteAt there := State.byteAt_of_mem_eq (by simp) there

@[simp] theorem Mode.performsDummies_resolve (m : Mode) (k : Access) (s : State) :
    (m.resolve k s).state.performsDummies = s.performsDummies := State.performsDummies_of_params_eq (by simp)

/-- Fetching an operand changes nothing but the history and the count of free values (R110). -/
theorem Operand.fetch_busOnly (o : Operand) (s : State) : BusOnly s (o.fetch s).2 := by
  cases o with
  | imm oper => exact BusOnly.refl s
  | mem m => exact (m.resolve_busOnly .read s).trans (State.noteRead_busOnly _ _)

@[simp] theorem Operand.fetch_a (o : Operand) (s : State) : (o.fetch s).2.a = s.a := (o.fetch_busOnly s).a

@[simp] theorem Operand.fetch_x (o : Operand) (s : State) : (o.fetch s).2.x = s.x := (o.fetch_busOnly s).x

@[simp] theorem Operand.fetch_y (o : Operand) (s : State) : (o.fetch s).2.y = s.y := (o.fetch_busOnly s).y

@[simp] theorem Operand.fetch_sp (o : Operand) (s : State) : (o.fetch s).2.sp = s.sp := (o.fetch_busOnly s).sp

@[simp] theorem Operand.fetch_pc (o : Operand) (s : State) : (o.fetch s).2.pc = s.pc := (o.fetch_busOnly s).pc

@[simp] theorem Operand.fetch_p (o : Operand) (s : State) : (o.fetch s).2.p = s.p := (o.fetch_busOnly s).p

@[simp] theorem Operand.fetch_mem (o : Operand) (s : State) : (o.fetch s).2.mem = s.mem := (o.fetch_busOnly s).mem

@[simp] theorem Operand.fetch_nmiPending (o : Operand) (s : State) : (o.fetch s).2.nmiPending = s.nmiPending := (o.fetch_busOnly s).nmiPending

@[simp] theorem Operand.fetch_irqLine (o : Operand) (s : State) : (o.fetch s).2.irqLine = s.irqLine := (o.fetch_busOnly s).irqLine

@[simp] theorem Operand.fetch_nmiLine (o : Operand) (s : State) : (o.fetch s).2.nmiLine = s.nmiLine := (o.fetch_busOnly s).nmiLine

@[simp] theorem Operand.fetch_resetLine (o : Operand) (s : State) : (o.fetch s).2.resetLine = s.resetLine := (o.fetch_busOnly s).resetLine

@[simp] theorem Operand.fetch_resetPending (o : Operand) (s : State) : (o.fetch s).2.resetPending = s.resetPending := (o.fetch_busOnly s).resetPending

@[simp] theorem Operand.fetch_schedule (o : Operand) (s : State) : (o.fetch s).2.schedule = s.schedule := (o.fetch_busOnly s).schedule

@[simp] theorem Operand.fetch_params (o : Operand) (s : State) : (o.fetch s).2.params = s.params := (o.fetch_busOnly s).params

theorem State.implied_busOnly (s : State) : BusOnly (s.advance 1) s.implied := State.dummyRead_busOnly _ _

/-- A read instruction runs its body on the operand, PC moved on and every other field but the
history and the count of free values as before (R110). -/
theorem readInstr_spec (o : Operand) (body : Byte → State → Result) (s : State) :
    readInstr o body s = body (o.fetch (s.advance o.length)).1 { s with
      pc := s.pc + BitVec.ofNat 16 o.length
      bus := (o.fetch (s.advance o.length)).2.bus
      draws := (o.fetch (s.advance o.length)).2.draws } :=
  congrArg (body _) (State.ext (by simp) (by simp) (by simp) (by simp) (by simp) (by simp) (by simp) (by simp)
    (by simp) (by simp) (by simp) (by simp) (by simp) rfl rfl (by simp))

/-- A store completes: PC moves on, memory is as the write leaves it, and every other field but the
history and the count of free values is as before (R110). -/
theorem storeInstr_spec (m : Mode) (v : Byte) (s : State) :
    storeInstr m v s = .next { s with
      pc := s.pc + BitVec.ofNat 16 m.length
      mem := (s.memWrite (m.resolve .write (s.advance m.length)).ea v).mem
      bus := ((m.resolve .write (s.advance m.length)).state.memWrite (m.resolve .write (s.advance m.length)).ea v).bus
      draws := (m.resolve .write (s.advance m.length)).state.draws } :=
  congrArg Host.Outcome.next (State.ext (by simp) (by simp) (by simp) (by simp) (by simp) (by simp)
    (by simp [State.memWrite]) (by simp) (by simp) (by simp) (by simp) (by simp) (by simp) rfl (by simp) (by simp))

/-- A read-modify-write instruction completes: PC moves on, the flags and the byte written follow the
byte read, memory is as the two writes leave it, and every other field but the history and the count
of free values is as before (R110, R175). -/
theorem modifyInstr_spec (m : Mode) (f : Byte → Flags → Byte × Flags) (s : State) :
    ∃ t, modifyInstr m f s = .next t ∧
      t = { s with
        pc := s.pc + BitVec.ofNat 16 m.length
        p := (f ((m.resolve .write (s.advance m.length)).state.peek (m.resolve .write (s.advance m.length)).ea) s.p).2
        mem := t.mem, bus := t.bus, draws := t.draws } ∧
      ∀ there : Word, t.byteAt there =
        if there = (m.resolve .write (s.advance m.length)).ea ∧
            s.kindAt (m.resolve .write (s.advance m.length)).ea = .ram then
          (f ((m.resolve .write (s.advance m.length)).state.peek (m.resolve .write (s.advance m.length)).ea) s.p).1
        else s.byteAt there := by
  refine ⟨_, rfl, ?_, fun there => ?_⟩
  · ext <;> simp
  · rw [State.byteAt_memWrite]
    have hk : ∀ (u : State) (q : Flags), State.kindAt { u with p := q } = State.kindAt u := fun _ _ => rfl
    have hb : ∀ (u : State) (q : Flags), State.byteAt { u with p := q } = State.byteAt u := fun _ _ => rfl
    rw [hk, hb, State.byteAt_dummyWrite]
    · simp
    · intro h
      have h' : backed ((m.resolve .write (s.advance m.length)).state.kindAt (m.resolve .write (s.advance m.length)).ea) = true := by
        simp at h; simp [h, backed]
      simpa using State.peek_of_backed h'

/-- A shift of the accumulator completes: A and the flags follow it, PC moves on by one (R112, R170). -/
theorem accumulatorInstr_spec (f : Byte → Flags → Byte × Flags) (s : State) :
    ∃ t, accumulatorInstr f s = .next t ∧
      t = { s with pc := s.pc + 1, a := (f s.a s.p).1, p := (f s.a s.p).2, bus := t.bus, draws := t.draws } :=
  ⟨_, rfl, by ext <;> simp⟩

/-- A branch completes, and PC alone changes but for the history (R190, R199). -/
theorem branchInstr_spec (cond : Bool) (oper : Byte) (s : State) :
    ∃ t, branchInstr cond oper s = .next t ∧
      t = { s with
        pc := if cond then branchTarget (s.pc + 2) oper else s.pc + 2
        bus := t.bus, draws := t.draws } := by
  unfold branchInstr
  cases cond
  · exact ⟨_, rfl, rfl⟩
  · refine ⟨_, rfl, ?_⟩
    dsimp only
    split <;> ext <;> simp

/-! ## Stopping, and the steps at a boundary -/

/-- A finished state is the next one unless an access is one the platform rejects (R59). -/
theorem State.finish_eq (s : State) :
    (s.stuckAt = none ∧ s.finish = .next s) ∨ ∃ addr, s.stuckAt = some addr ∧ s.finish = .fault (.stuck addr) := by
  unfold State.finish; cases s.stuckAt <;> simp

/-- A platform that lets every access run rejects none (R59). -/
theorem State.stuckAt_anyValue {s : State} (h : s.params.unmappedAccess = .anyValue) : s.stuckAt = none := by
  simp [State.stuckAt, h]

theorem rejectUnmapped_next {r : Result} {t : State} (h : rejectUnmapped r = .next t) : r = .next t ∧ t.stuckAt = none := by
  cases r with
  | next s =>
    rcases s.finish_eq with ⟨hs, hf⟩ | ⟨addr, _, hf⟩
    · simp only [rejectUnmapped, hf, Host.Outcome.next.injEq] at h; exact ⟨by rw [h], h ▸ hs⟩
    · simp [rejectUnmapped, hf] at h
  | fault r => simp [rejectUnmapped] at h
  | refused r => simp [rejectUnmapped] at h

/-- The boundary's pin changes touch the inputs' levels and the latches, take one entry off the
schedule, and start a new history; every other field is as before (R72, R314, R315, R316). -/
theorem State.sample_eq (s : State) :
    s.sample = { s with
      nmiPending := s.sample.nmiPending
      irqLine := s.sample.irqLine
      nmiLine := s.sample.nmiLine
      resetLine := s.sample.resetLine
      resetPending := s.sample.resetPending
      schedule := s.schedule.tail
      bus := [] } := by
  have pins : ∀ (events : List PinEvent) (t : State), events.foldl State.applyPin t = { t with
      nmiPending := (events.foldl State.applyPin t).nmiPending
      irqLine := (events.foldl State.applyPin t).irqLine
      nmiLine := (events.foldl State.applyPin t).nmiLine
      resetLine := (events.foldl State.applyPin t).resetLine
      resetPending := (events.foldl State.applyPin t).resetPending } := by
    intro events
    induction events with
    | nil => intro t; rfl
    | cons e events ih =>
      intro t
      have he : t.applyPin e = { t with
          nmiPending := (t.applyPin e).nmiPending
          irqLine := (t.applyPin e).irqLine
          nmiLine := (t.applyPin e).nmiLine
          resetLine := (t.applyPin e).resetLine
          resetPending := (t.applyPin e).resetPending } := by cases e <;> rfl
      rw [List.foldl_cons, ih (t.applyPin e), he]
  exact pins s.boundary.events { s with schedule := s.schedule.tail, bus := [] }

@[simp] theorem State.sample_a (s : State) : s.sample.a = s.a := by rw [s.sample_eq]

@[simp] theorem State.sample_x (s : State) : s.sample.x = s.x := by rw [s.sample_eq]

@[simp] theorem State.sample_y (s : State) : s.sample.y = s.y := by rw [s.sample_eq]

@[simp] theorem State.sample_sp (s : State) : s.sample.sp = s.sp := by rw [s.sample_eq]

@[simp] theorem State.sample_pc (s : State) : s.sample.pc = s.pc := by rw [s.sample_eq]

@[simp] theorem State.sample_p (s : State) : s.sample.p = s.p := by rw [s.sample_eq]

@[simp] theorem State.sample_mem (s : State) : s.sample.mem = s.mem := by rw [s.sample_eq]

@[simp] theorem State.sample_schedule (s : State) : s.sample.schedule = s.schedule.tail := by rw [s.sample_eq]

@[simp] theorem State.sample_bus (s : State) : s.sample.bus = [] := by rw [s.sample_eq]

@[simp] theorem State.sample_draws (s : State) : s.sample.draws = s.draws := by rw [s.sample_eq]

@[simp] theorem State.sample_params (s : State) : s.sample.params = s.params := by rw [s.sample_eq]

/-- What a step that goes on can have done: held in RESET, run the reset sequence, taken NMI, taken
IRQ, or executed an instruction (R315, R316, R317). -/
theorem step_cases {s t : State} (h : step s = .next t) :
    (s.sample.resetLine = true ∧ t = s.sample) ∨
    (s.sample.resetLine = false ∧ s.sample.resetPending = true ∧ t = s.sample.resetSequence) ∨
    (s.sample.resetLine = false ∧ s.sample.resetPending = false ∧ s.sample.nmiPending = true ∧ t = s.sample.takeNmi) ∨
    (s.sample.resetLine = false ∧ s.sample.resetPending = false ∧ s.sample.nmiPending = false ∧
      s.sample.irqTaken s.boundary.takeIrq = true ∧ t = s.sample.takeIrq) ∨
    (s.sample.resetLine = false ∧ s.sample.resetPending = false ∧ s.sample.nmiPending = false ∧
      s.sample.irqTaken s.boundary.takeIrq = false ∧ ∃ i u, s.sample.fetch = .instr i u ∧ exec i u = .next t) := by
  have h' := (rejectUnmapped_next h).1
  unfold State.atBoundary at h'
  cases h1 : s.sample.resetLine
  · cases h2 : s.sample.resetPending
    · cases h3 : s.sample.nmiPending
      · cases h4 : s.sample.irqTaken s.boundary.takeIrq
        · simp only [h1, h2, h3, h4, State.execute] at h'
          cases hf : s.sample.fetch with
          | instr i u =>
            rw [hf] at h'
            exact .inr (.inr (.inr (.inr ⟨rfl, rfl, rfl, rfl, i, u, rfl, by simpa using h'⟩)))
          | undefined op u =>
            rw [hf] at h'
            simp only [State.refuse, Bool.false_eq_true, if_false] at h'
            split at h' <;> simp at h'
        · simp [h1, h2, h3, h4] at h'; exact .inr (.inr (.inr (.inl ⟨rfl, rfl, rfl, rfl, h'.symm⟩)))
      · simp [h1, h2, h3] at h'; exact .inr (.inr (.inl ⟨rfl, rfl, rfl, h'.symm⟩))
    · simp [h1, h2] at h'; exact .inr (.inl ⟨rfl, rfl, h'.symm⟩)
  · simp [h1] at h'; exact .inl ⟨rfl, h'.symm⟩

/-! ## Fetching -/

/-- Reading bytes that memory answers gives memory's bytes, and adds the reads to the history (R54, R57). -/
theorem readBytes_of_backed (count : Nat) : ∀ (addr : Word) (s : State),
    (∀ k < count, backed (s.kindAt (addr + BitVec.ofNat 16 k)) = true) →
    readBytes count addr s = ((List.range count).map (fun k => s.byteAt (addr + BitVec.ofNat 16 k)), { s with
      bus := s.bus ++ (List.range count).map (fun k =>
        .read (addr + BitVec.ofNat 16 k) (s.byteAt (addr + BitVec.ofNat 16 k))) }) := by
  induction count with
  | zero => intro addr s _; simp [readBytes]
  | succ count ih =>
    intro addr s h
    have h0 : backed (s.kindAt addr) = true := by simpa using h 0 (by omega)
    have hstep : ∀ k, addr + 1 + BitVec.ofNat 16 k = addr + BitVec.ofNat 16 (k + 1) := by
      intro k; rw [BitVec.add_assoc]; congr 1; apply BitVec.eq_of_toNat_eq; simp; omega
    have hrest : ∀ k < count, backed ((s.noteRead addr).kindAt (addr + 1 + BitVec.ofNat 16 k)) = true := by
      intro k hk; rw [hstep, State.kindAt_noteRead]; exact h (k + 1) (by omega)
    have hn : s.noteRead addr = { s with bus := s.bus ++ [.read addr (s.byteAt addr)] } := by
      simp [State.noteRead, State.peek_of_backed h0, h0]
    simp only [readBytes, ih (addr + 1) (s.noteRead addr) hrest, List.range_succ_eq_map, List.map_cons, List.map_map,
      State.byteAt_noteRead, hstep, State.peek_of_backed h0]
    simp [hn, Function.comp_def]

end Sys2Proof.Machine
end

