-- ==== Sys2Proof/Laws/Access.lean ====
section
/-! SUPPORT. What each named operation adds to the history of accesses. -/

namespace Sys2Proof.Machine

theorem State.discarded_of_params_eq {s t : State} (h : t.params = s.params) (e : Touch) : t.discarded e = s.discarded e := by
  unfold State.discarded; rw [State.performsDummies_of_params_eq h]

@[simp] theorem State.discarded_noteRead (s : State) (addr : Word) (e : Touch) : (s.noteRead addr).discarded e = s.discarded e :=
  State.discarded_of_params_eq (by simp) e

@[simp] theorem State.discarded_memWrite (s : State) (addr : Word) (v : Byte) (e : Touch) : (s.memWrite addr v).discarded e = s.discarded e :=
  State.discarded_of_params_eq (by simp) e

@[simp] theorem State.discarded_dummyRead (s : State) (addr : Word) (e : Touch) : (s.dummyRead addr).discarded e = s.discarded e :=
  State.discarded_of_params_eq (by simp) e

@[simp] theorem State.discarded_dummyWrite (s : State) (addr : Word) (v : Byte) (e : Touch) : (s.dummyWrite addr v).discarded e = s.discarded e :=
  State.discarded_of_params_eq (by simp) e

@[simp] theorem State.discarded_advance (s : State) (n : Nat) (e : Touch) : (s.advance n).discarded e = s.discarded e :=
  State.discarded_of_params_eq (by simp) e

@[simp] theorem State.discarded_push (s : State) (v : Byte) (e : Touch) : (s.push v).discarded e = s.discarded e :=
  State.discarded_of_params_eq (by simp) e

@[simp] theorem State.discarded_implied (s : State) (e : Touch) : s.implied.discarded e = s.discarded e :=
  State.discarded_of_params_eq (by simp) e

@[simp] theorem State.discarded_pull (s : State) (e : Touch) : s.pull.2.discarded e = s.discarded e := rfl

@[simp] theorem State.noteRead_touches (s : State) (addr : Word) : (s.noteRead addr).touches = s.touches ++ [.r addr] := by
  simp [State.touches, State.noteRead, BusEvent.touch]

@[simp] theorem State.memWrite_touches (s : State) (addr : Word) (v : Byte) :
    (s.memWrite addr v).touches = s.touches ++ [.w addr] := by
  simp [State.touches, State.memWrite, BusEvent.touch]

@[simp] theorem State.dummyRead_touches (s : State) (addr : Word) :
    (s.dummyRead addr).touches = s.touches ++ s.discarded (.r addr) := by
  unfold State.dummyRead State.discarded; split <;> simp

@[simp] theorem State.dummyWrite_touches (s : State) (addr : Word) (v : Byte) :
    (s.dummyWrite addr v).touches = s.touches ++ s.discarded (.w addr) := by
  unfold State.dummyWrite State.discarded; split <;> simp

@[simp] theorem State.advance_touches (s : State) (n : Nat) : (s.advance n).touches = s.touches := rfl

@[simp] theorem State.implied_touches (s : State) : s.implied.touches = s.touches ++ s.discarded (.r (s.pc + 1)) := by
  simp [State.implied]

@[simp] theorem State.push_touches (s : State) (v : Byte) : (s.push v).touches = s.touches ++ [.w (stackAddr s.sp)] :=
  State.memWrite_touches s (stackAddr s.sp) v

@[simp] theorem State.pull_touches (s : State) : s.pull.2.touches = s.touches ++ [.r (stackAddr (s.sp + 1))] :=
  State.noteRead_touches { s with sp := s.sp + 1 } (stackAddr (s.sp + 1))

@[simp] theorem State.entered_touches (s : State) (ret : Word) (b : Bool) :
    (s.entered ret b).touches =
      s.touches ++ [.w (stackAddr s.sp), .w (stackAddr (s.sp - 1)), .w (stackAddr (s.sp - 1 - 1))] := by
  show (((s.push (hiByte ret)).push (loByte ret)).push (s.p.pack b)).touches = _
  simp

@[simp] theorem State.jumpThrough_touches (s : State) (vec : Word) :
    (s.jumpThrough vec).touches = s.touches ++ [.r vec, .r (vec + 1)] := by
  show ((s.noteRead vec).noteRead (vec + 1)).touches = _
  simp

/-- The accesses of an interrupt entry: three writes, two reads (R318, R125). -/
theorem State.enterInterrupt_touches (s : State) (ret : Word) (b : Bool) (vec : Word) :
    (s.enterInterrupt ret b vec).touches =
      s.touches ++ [.w (stackAddr s.sp), .w (stackAddr (s.sp - 1)), .w (stackAddr (s.sp - 1 - 1)), .r vec, .r (vec + 1)] := by
  simp [State.enterInterrupt]

end Sys2Proof.Machine
end

