-- ==== Sys2Proof/Laws/PerInstr.lean ====
section
/-! SUPPORT. Per-instruction families: a statement about an instruction as syntax, and one lemma per
constructor. -/

namespace Sys2Proof.Laws

set_option maxRecDepth 4000

/-- The encoding has the instruction's length, and its first byte's row is the instruction's (R80, R89, R90). -/
def EncodingShape.Statement (i : Instr) : Prop :=
  (encode i).length = i.length ∧
    ∃ row, (encode i).head?.bind rowOf = some row ∧ row.mnemonic = i.mnemonic ∧ row.mode = i.mode

theorem EncodingShape.adcImm (oper : Byte) : EncodingShape.Statement (.adcImm oper) := ⟨rfl, _, rfl, rfl, rfl⟩

theorem EncodingShape.adcZp (oper : Byte) : EncodingShape.Statement (.adcZp oper) := ⟨rfl, _, rfl, rfl, rfl⟩

theorem EncodingShape.adcZpx (oper : Byte) : EncodingShape.Statement (.adcZpx oper) := ⟨rfl, _, rfl, rfl, rfl⟩

theorem EncodingShape.adcAbs (oper : Word) : EncodingShape.Statement (.adcAbs oper) := ⟨rfl, _, rfl, rfl, rfl⟩

theorem EncodingShape.adcAbx (oper : Word) : EncodingShape.Statement (.adcAbx oper) := ⟨rfl, _, rfl, rfl, rfl⟩

theorem EncodingShape.adcAby (oper : Word) : EncodingShape.Statement (.adcAby oper) := ⟨rfl, _, rfl, rfl, rfl⟩

theorem EncodingShape.adcIzx (oper : Byte) : EncodingShape.Statement (.adcIzx oper) := ⟨rfl, _, rfl, rfl, rfl⟩

theorem EncodingShape.adcIzy (oper : Byte) : EncodingShape.Statement (.adcIzy oper) := ⟨rfl, _, rfl, rfl, rfl⟩

theorem EncodingShape.aslAcc : EncodingShape.Statement .aslAcc := ⟨rfl, _, rfl, rfl, rfl⟩

theorem EncodingShape.aslZp (oper : Byte) : EncodingShape.Statement (.aslZp oper) := ⟨rfl, _, rfl, rfl, rfl⟩

theorem EncodingShape.aslZpx (oper : Byte) : EncodingShape.Statement (.aslZpx oper) := ⟨rfl, _, rfl, rfl, rfl⟩

theorem EncodingShape.aslAbs (oper : Word) : EncodingShape.Statement (.aslAbs oper) := ⟨rfl, _, rfl, rfl, rfl⟩

theorem EncodingShape.aslAbx (oper : Word) : EncodingShape.Statement (.aslAbx oper) := ⟨rfl, _, rfl, rfl, rfl⟩

theorem EncodingShape.bcc (oper : Byte) : EncodingShape.Statement (.bcc oper) := ⟨rfl, _, rfl, rfl, rfl⟩

theorem EncodingShape.bcs (oper : Byte) : EncodingShape.Statement (.bcs oper) := ⟨rfl, _, rfl, rfl, rfl⟩

theorem EncodingShape.beq (oper : Byte) : EncodingShape.Statement (.beq oper) := ⟨rfl, _, rfl, rfl, rfl⟩

theorem EncodingShape.bitZp (oper : Byte) : EncodingShape.Statement (.bitZp oper) := ⟨rfl, _, rfl, rfl, rfl⟩

theorem EncodingShape.bitAbs (oper : Word) : EncodingShape.Statement (.bitAbs oper) := ⟨rfl, _, rfl, rfl, rfl⟩

theorem EncodingShape.bmi (oper : Byte) : EncodingShape.Statement (.bmi oper) := ⟨rfl, _, rfl, rfl, rfl⟩

theorem EncodingShape.bne (oper : Byte) : EncodingShape.Statement (.bne oper) := ⟨rfl, _, rfl, rfl, rfl⟩

theorem EncodingShape.bpl (oper : Byte) : EncodingShape.Statement (.bpl oper) := ⟨rfl, _, rfl, rfl, rfl⟩

theorem EncodingShape.bvc (oper : Byte) : EncodingShape.Statement (.bvc oper) := ⟨rfl, _, rfl, rfl, rfl⟩

theorem EncodingShape.bvs (oper : Byte) : EncodingShape.Statement (.bvs oper) := ⟨rfl, _, rfl, rfl, rfl⟩

theorem EncodingShape.cmpImm (oper : Byte) : EncodingShape.Statement (.cmpImm oper) := ⟨rfl, _, rfl, rfl, rfl⟩

theorem EncodingShape.cmpZp (oper : Byte) : EncodingShape.Statement (.cmpZp oper) := ⟨rfl, _, rfl, rfl, rfl⟩

theorem EncodingShape.cmpZpx (oper : Byte) : EncodingShape.Statement (.cmpZpx oper) := ⟨rfl, _, rfl, rfl, rfl⟩

theorem EncodingShape.cmpAbs (oper : Word) : EncodingShape.Statement (.cmpAbs oper) := ⟨rfl, _, rfl, rfl, rfl⟩

theorem EncodingShape.cmpAbx (oper : Word) : EncodingShape.Statement (.cmpAbx oper) := ⟨rfl, _, rfl, rfl, rfl⟩

theorem EncodingShape.cmpAby (oper : Word) : EncodingShape.Statement (.cmpAby oper) := ⟨rfl, _, rfl, rfl, rfl⟩

theorem EncodingShape.cmpIzx (oper : Byte) : EncodingShape.Statement (.cmpIzx oper) := ⟨rfl, _, rfl, rfl, rfl⟩

theorem EncodingShape.cmpIzy (oper : Byte) : EncodingShape.Statement (.cmpIzy oper) := ⟨rfl, _, rfl, rfl, rfl⟩

theorem EncodingShape.cpxImm (oper : Byte) : EncodingShape.Statement (.cpxImm oper) := ⟨rfl, _, rfl, rfl, rfl⟩

theorem EncodingShape.cpxZp (oper : Byte) : EncodingShape.Statement (.cpxZp oper) := ⟨rfl, _, rfl, rfl, rfl⟩

theorem EncodingShape.cpxAbs (oper : Word) : EncodingShape.Statement (.cpxAbs oper) := ⟨rfl, _, rfl, rfl, rfl⟩

theorem EncodingShape.cpyImm (oper : Byte) : EncodingShape.Statement (.cpyImm oper) := ⟨rfl, _, rfl, rfl, rfl⟩

theorem EncodingShape.cpyZp (oper : Byte) : EncodingShape.Statement (.cpyZp oper) := ⟨rfl, _, rfl, rfl, rfl⟩

theorem EncodingShape.cpyAbs (oper : Word) : EncodingShape.Statement (.cpyAbs oper) := ⟨rfl, _, rfl, rfl, rfl⟩

theorem EncodingShape.jmpAbs (oper : Word) : EncodingShape.Statement (.jmpAbs oper) := ⟨rfl, _, rfl, rfl, rfl⟩

theorem EncodingShape.jmpInd (oper : Word) : EncodingShape.Statement (.jmpInd oper) := ⟨rfl, _, rfl, rfl, rfl⟩

theorem EncodingShape.jsr (oper : Word) : EncodingShape.Statement (.jsr oper) := ⟨rfl, _, rfl, rfl, rfl⟩

theorem EncodingShape.lsrAcc : EncodingShape.Statement .lsrAcc := ⟨rfl, _, rfl, rfl, rfl⟩

theorem EncodingShape.lsrZp (oper : Byte) : EncodingShape.Statement (.lsrZp oper) := ⟨rfl, _, rfl, rfl, rfl⟩

theorem EncodingShape.lsrZpx (oper : Byte) : EncodingShape.Statement (.lsrZpx oper) := ⟨rfl, _, rfl, rfl, rfl⟩

theorem EncodingShape.lsrAbs (oper : Word) : EncodingShape.Statement (.lsrAbs oper) := ⟨rfl, _, rfl, rfl, rfl⟩

theorem EncodingShape.lsrAbx (oper : Word) : EncodingShape.Statement (.lsrAbx oper) := ⟨rfl, _, rfl, rfl, rfl⟩

theorem EncodingShape.rolAcc : EncodingShape.Statement .rolAcc := ⟨rfl, _, rfl, rfl, rfl⟩

theorem EncodingShape.rolZp (oper : Byte) : EncodingShape.Statement (.rolZp oper) := ⟨rfl, _, rfl, rfl, rfl⟩

theorem EncodingShape.rolZpx (oper : Byte) : EncodingShape.Statement (.rolZpx oper) := ⟨rfl, _, rfl, rfl, rfl⟩

theorem EncodingShape.rolAbs (oper : Word) : EncodingShape.Statement (.rolAbs oper) := ⟨rfl, _, rfl, rfl, rfl⟩

theorem EncodingShape.rolAbx (oper : Word) : EncodingShape.Statement (.rolAbx oper) := ⟨rfl, _, rfl, rfl, rfl⟩

theorem EncodingShape.rorAcc : EncodingShape.Statement .rorAcc := ⟨rfl, _, rfl, rfl, rfl⟩

theorem EncodingShape.rorZp (oper : Byte) : EncodingShape.Statement (.rorZp oper) := ⟨rfl, _, rfl, rfl, rfl⟩

theorem EncodingShape.rorZpx (oper : Byte) : EncodingShape.Statement (.rorZpx oper) := ⟨rfl, _, rfl, rfl, rfl⟩

theorem EncodingShape.rorAbs (oper : Word) : EncodingShape.Statement (.rorAbs oper) := ⟨rfl, _, rfl, rfl, rfl⟩

theorem EncodingShape.rorAbx (oper : Word) : EncodingShape.Statement (.rorAbx oper) := ⟨rfl, _, rfl, rfl, rfl⟩

theorem EncodingShape.rti : EncodingShape.Statement .rti := ⟨rfl, _, rfl, rfl, rfl⟩

theorem EncodingShape.rts : EncodingShape.Statement .rts := ⟨rfl, _, rfl, rfl, rfl⟩

theorem EncodingShape.sbcImm (oper : Byte) : EncodingShape.Statement (.sbcImm oper) := ⟨rfl, _, rfl, rfl, rfl⟩

theorem EncodingShape.sbcZp (oper : Byte) : EncodingShape.Statement (.sbcZp oper) := ⟨rfl, _, rfl, rfl, rfl⟩

theorem EncodingShape.sbcZpx (oper : Byte) : EncodingShape.Statement (.sbcZpx oper) := ⟨rfl, _, rfl, rfl, rfl⟩

theorem EncodingShape.sbcAbs (oper : Word) : EncodingShape.Statement (.sbcAbs oper) := ⟨rfl, _, rfl, rfl, rfl⟩

theorem EncodingShape.sbcAbx (oper : Word) : EncodingShape.Statement (.sbcAbx oper) := ⟨rfl, _, rfl, rfl, rfl⟩

theorem EncodingShape.sbcAby (oper : Word) : EncodingShape.Statement (.sbcAby oper) := ⟨rfl, _, rfl, rfl, rfl⟩

theorem EncodingShape.sbcIzx (oper : Byte) : EncodingShape.Statement (.sbcIzx oper) := ⟨rfl, _, rfl, rfl, rfl⟩

theorem EncodingShape.sbcIzy (oper : Byte) : EncodingShape.Statement (.sbcIzy oper) := ⟨rfl, _, rfl, rfl, rfl⟩

theorem EncodingShape.andImm (oper : Byte) : EncodingShape.Statement (.andImm oper) := ⟨rfl, _, rfl, rfl, rfl⟩

theorem EncodingShape.andZp (oper : Byte) : EncodingShape.Statement (.andZp oper) := ⟨rfl, _, rfl, rfl, rfl⟩

theorem EncodingShape.andZpx (oper : Byte) : EncodingShape.Statement (.andZpx oper) := ⟨rfl, _, rfl, rfl, rfl⟩

theorem EncodingShape.andAbs (oper : Word) : EncodingShape.Statement (.andAbs oper) := ⟨rfl, _, rfl, rfl, rfl⟩

theorem EncodingShape.andAbx (oper : Word) : EncodingShape.Statement (.andAbx oper) := ⟨rfl, _, rfl, rfl, rfl⟩

theorem EncodingShape.andAby (oper : Word) : EncodingShape.Statement (.andAby oper) := ⟨rfl, _, rfl, rfl, rfl⟩

theorem EncodingShape.andIzx (oper : Byte) : EncodingShape.Statement (.andIzx oper) := ⟨rfl, _, rfl, rfl, rfl⟩

theorem EncodingShape.andIzy (oper : Byte) : EncodingShape.Statement (.andIzy oper) := ⟨rfl, _, rfl, rfl, rfl⟩

theorem EncodingShape.brk : EncodingShape.Statement .brk := ⟨rfl, _, rfl, rfl, rfl⟩

theorem EncodingShape.clc : EncodingShape.Statement .clc := ⟨rfl, _, rfl, rfl, rfl⟩

theorem EncodingShape.cld : EncodingShape.Statement .cld := ⟨rfl, _, rfl, rfl, rfl⟩

theorem EncodingShape.cli : EncodingShape.Statement .cli := ⟨rfl, _, rfl, rfl, rfl⟩

theorem EncodingShape.clv : EncodingShape.Statement .clv := ⟨rfl, _, rfl, rfl, rfl⟩

theorem EncodingShape.decZp (oper : Byte) : EncodingShape.Statement (.decZp oper) := ⟨rfl, _, rfl, rfl, rfl⟩

theorem EncodingShape.decZpx (oper : Byte) : EncodingShape.Statement (.decZpx oper) := ⟨rfl, _, rfl, rfl, rfl⟩

theorem EncodingShape.decAbs (oper : Word) : EncodingShape.Statement (.decAbs oper) := ⟨rfl, _, rfl, rfl, rfl⟩

theorem EncodingShape.decAbx (oper : Word) : EncodingShape.Statement (.decAbx oper) := ⟨rfl, _, rfl, rfl, rfl⟩

theorem EncodingShape.dex : EncodingShape.Statement .dex := ⟨rfl, _, rfl, rfl, rfl⟩

theorem EncodingShape.dey : EncodingShape.Statement .dey := ⟨rfl, _, rfl, rfl, rfl⟩

theorem EncodingShape.eorImm (oper : Byte) : EncodingShape.Statement (.eorImm oper) := ⟨rfl, _, rfl, rfl, rfl⟩

theorem EncodingShape.eorZp (oper : Byte) : EncodingShape.Statement (.eorZp oper) := ⟨rfl, _, rfl, rfl, rfl⟩

theorem EncodingShape.eorZpx (oper : Byte) : EncodingShape.Statement (.eorZpx oper) := ⟨rfl, _, rfl, rfl, rfl⟩

theorem EncodingShape.eorAbs (oper : Word) : EncodingShape.Statement (.eorAbs oper) := ⟨rfl, _, rfl, rfl, rfl⟩

theorem EncodingShape.eorAbx (oper : Word) : EncodingShape.Statement (.eorAbx oper) := ⟨rfl, _, rfl, rfl, rfl⟩

theorem EncodingShape.eorAby (oper : Word) : EncodingShape.Statement (.eorAby oper) := ⟨rfl, _, rfl, rfl, rfl⟩

theorem EncodingShape.eorIzx (oper : Byte) : EncodingShape.Statement (.eorIzx oper) := ⟨rfl, _, rfl, rfl, rfl⟩

theorem EncodingShape.eorIzy (oper : Byte) : EncodingShape.Statement (.eorIzy oper) := ⟨rfl, _, rfl, rfl, rfl⟩

theorem EncodingShape.incZp (oper : Byte) : EncodingShape.Statement (.incZp oper) := ⟨rfl, _, rfl, rfl, rfl⟩

theorem EncodingShape.incZpx (oper : Byte) : EncodingShape.Statement (.incZpx oper) := ⟨rfl, _, rfl, rfl, rfl⟩

theorem EncodingShape.incAbs (oper : Word) : EncodingShape.Statement (.incAbs oper) := ⟨rfl, _, rfl, rfl, rfl⟩

theorem EncodingShape.incAbx (oper : Word) : EncodingShape.Statement (.incAbx oper) := ⟨rfl, _, rfl, rfl, rfl⟩

theorem EncodingShape.inx : EncodingShape.Statement .inx := ⟨rfl, _, rfl, rfl, rfl⟩

theorem EncodingShape.iny : EncodingShape.Statement .iny := ⟨rfl, _, rfl, rfl, rfl⟩

theorem EncodingShape.ldaImm (oper : Byte) : EncodingShape.Statement (.ldaImm oper) := ⟨rfl, _, rfl, rfl, rfl⟩

theorem EncodingShape.ldaZp (oper : Byte) : EncodingShape.Statement (.ldaZp oper) := ⟨rfl, _, rfl, rfl, rfl⟩

theorem EncodingShape.ldaZpx (oper : Byte) : EncodingShape.Statement (.ldaZpx oper) := ⟨rfl, _, rfl, rfl, rfl⟩

theorem EncodingShape.ldaAbs (oper : Word) : EncodingShape.Statement (.ldaAbs oper) := ⟨rfl, _, rfl, rfl, rfl⟩

theorem EncodingShape.ldaAbx (oper : Word) : EncodingShape.Statement (.ldaAbx oper) := ⟨rfl, _, rfl, rfl, rfl⟩

theorem EncodingShape.ldaAby (oper : Word) : EncodingShape.Statement (.ldaAby oper) := ⟨rfl, _, rfl, rfl, rfl⟩

theorem EncodingShape.ldaIzx (oper : Byte) : EncodingShape.Statement (.ldaIzx oper) := ⟨rfl, _, rfl, rfl, rfl⟩

theorem EncodingShape.ldaIzy (oper : Byte) : EncodingShape.Statement (.ldaIzy oper) := ⟨rfl, _, rfl, rfl, rfl⟩

theorem EncodingShape.ldxImm (oper : Byte) : EncodingShape.Statement (.ldxImm oper) := ⟨rfl, _, rfl, rfl, rfl⟩

theorem EncodingShape.ldxZp (oper : Byte) : EncodingShape.Statement (.ldxZp oper) := ⟨rfl, _, rfl, rfl, rfl⟩

theorem EncodingShape.ldxZpy (oper : Byte) : EncodingShape.Statement (.ldxZpy oper) := ⟨rfl, _, rfl, rfl, rfl⟩

theorem EncodingShape.ldxAbs (oper : Word) : EncodingShape.Statement (.ldxAbs oper) := ⟨rfl, _, rfl, rfl, rfl⟩

theorem EncodingShape.ldxAby (oper : Word) : EncodingShape.Statement (.ldxAby oper) := ⟨rfl, _, rfl, rfl, rfl⟩

theorem EncodingShape.ldyImm (oper : Byte) : EncodingShape.Statement (.ldyImm oper) := ⟨rfl, _, rfl, rfl, rfl⟩

theorem EncodingShape.ldyZp (oper : Byte) : EncodingShape.Statement (.ldyZp oper) := ⟨rfl, _, rfl, rfl, rfl⟩

theorem EncodingShape.ldyZpx (oper : Byte) : EncodingShape.Statement (.ldyZpx oper) := ⟨rfl, _, rfl, rfl, rfl⟩

theorem EncodingShape.ldyAbs (oper : Word) : EncodingShape.Statement (.ldyAbs oper) := ⟨rfl, _, rfl, rfl, rfl⟩

theorem EncodingShape.ldyAbx (oper : Word) : EncodingShape.Statement (.ldyAbx oper) := ⟨rfl, _, rfl, rfl, rfl⟩

theorem EncodingShape.nop : EncodingShape.Statement .nop := ⟨rfl, _, rfl, rfl, rfl⟩

theorem EncodingShape.oraImm (oper : Byte) : EncodingShape.Statement (.oraImm oper) := ⟨rfl, _, rfl, rfl, rfl⟩

theorem EncodingShape.oraZp (oper : Byte) : EncodingShape.Statement (.oraZp oper) := ⟨rfl, _, rfl, rfl, rfl⟩

theorem EncodingShape.oraZpx (oper : Byte) : EncodingShape.Statement (.oraZpx oper) := ⟨rfl, _, rfl, rfl, rfl⟩

theorem EncodingShape.oraAbs (oper : Word) : EncodingShape.Statement (.oraAbs oper) := ⟨rfl, _, rfl, rfl, rfl⟩

theorem EncodingShape.oraAbx (oper : Word) : EncodingShape.Statement (.oraAbx oper) := ⟨rfl, _, rfl, rfl, rfl⟩

theorem EncodingShape.oraAby (oper : Word) : EncodingShape.Statement (.oraAby oper) := ⟨rfl, _, rfl, rfl, rfl⟩

theorem EncodingShape.oraIzx (oper : Byte) : EncodingShape.Statement (.oraIzx oper) := ⟨rfl, _, rfl, rfl, rfl⟩

theorem EncodingShape.oraIzy (oper : Byte) : EncodingShape.Statement (.oraIzy oper) := ⟨rfl, _, rfl, rfl, rfl⟩

theorem EncodingShape.pha : EncodingShape.Statement .pha := ⟨rfl, _, rfl, rfl, rfl⟩

theorem EncodingShape.php : EncodingShape.Statement .php := ⟨rfl, _, rfl, rfl, rfl⟩

theorem EncodingShape.pla : EncodingShape.Statement .pla := ⟨rfl, _, rfl, rfl, rfl⟩

theorem EncodingShape.plp : EncodingShape.Statement .plp := ⟨rfl, _, rfl, rfl, rfl⟩

theorem EncodingShape.sec : EncodingShape.Statement .sec := ⟨rfl, _, rfl, rfl, rfl⟩

theorem EncodingShape.sed : EncodingShape.Statement .sed := ⟨rfl, _, rfl, rfl, rfl⟩

theorem EncodingShape.sei : EncodingShape.Statement .sei := ⟨rfl, _, rfl, rfl, rfl⟩

theorem EncodingShape.staZp (oper : Byte) : EncodingShape.Statement (.staZp oper) := ⟨rfl, _, rfl, rfl, rfl⟩

theorem EncodingShape.staZpx (oper : Byte) : EncodingShape.Statement (.staZpx oper) := ⟨rfl, _, rfl, rfl, rfl⟩

theorem EncodingShape.staAbs (oper : Word) : EncodingShape.Statement (.staAbs oper) := ⟨rfl, _, rfl, rfl, rfl⟩

theorem EncodingShape.staAbx (oper : Word) : EncodingShape.Statement (.staAbx oper) := ⟨rfl, _, rfl, rfl, rfl⟩

theorem EncodingShape.staAby (oper : Word) : EncodingShape.Statement (.staAby oper) := ⟨rfl, _, rfl, rfl, rfl⟩

theorem EncodingShape.staIzx (oper : Byte) : EncodingShape.Statement (.staIzx oper) := ⟨rfl, _, rfl, rfl, rfl⟩

theorem EncodingShape.staIzy (oper : Byte) : EncodingShape.Statement (.staIzy oper) := ⟨rfl, _, rfl, rfl, rfl⟩

theorem EncodingShape.stxZp (oper : Byte) : EncodingShape.Statement (.stxZp oper) := ⟨rfl, _, rfl, rfl, rfl⟩

theorem EncodingShape.stxZpy (oper : Byte) : EncodingShape.Statement (.stxZpy oper) := ⟨rfl, _, rfl, rfl, rfl⟩

theorem EncodingShape.stxAbs (oper : Word) : EncodingShape.Statement (.stxAbs oper) := ⟨rfl, _, rfl, rfl, rfl⟩

theorem EncodingShape.styZp (oper : Byte) : EncodingShape.Statement (.styZp oper) := ⟨rfl, _, rfl, rfl, rfl⟩

theorem EncodingShape.styZpx (oper : Byte) : EncodingShape.Statement (.styZpx oper) := ⟨rfl, _, rfl, rfl, rfl⟩

theorem EncodingShape.styAbs (oper : Word) : EncodingShape.Statement (.styAbs oper) := ⟨rfl, _, rfl, rfl, rfl⟩

theorem EncodingShape.tax : EncodingShape.Statement .tax := ⟨rfl, _, rfl, rfl, rfl⟩

theorem EncodingShape.tay : EncodingShape.Statement .tay := ⟨rfl, _, rfl, rfl, rfl⟩

theorem EncodingShape.tsx : EncodingShape.Statement .tsx := ⟨rfl, _, rfl, rfl, rfl⟩

theorem EncodingShape.txa : EncodingShape.Statement .txa := ⟨rfl, _, rfl, rfl, rfl⟩

theorem EncodingShape.txs : EncodingShape.Statement .txs := ⟨rfl, _, rfl, rfl, rfl⟩

theorem EncodingShape.tya : EncodingShape.Statement .tya := ⟨rfl, _, rfl, rfl, rfl⟩

end Sys2Proof.Laws
end

