-- ==== Sys2Proof/Tests/Slice0.lean ====
section
/-! SUPPORT. Tests, each of one step or one word, with the expected result taken from the spec: the
vectors V-… of 95_test_vectors.md, whose ids stand over the theorems, and the encodings of the opcode
table. Then the witnesses: for each statement with premises, a state and operands that meet them. -/

namespace Sys2Proof.Tests

open Machine

set_option maxRecDepth 4000

/-! ## Helpers -/

/-- The six flags at 0. -/
def clear : Flags := { n := false, v := false, d := false, i := false, z := false, c := false }

/-- The default start state of the vectors: PC 0200, A, X, Y 00, S FF, the flags 0. -/
def start : State := { State.reset with pc := 0x0200#16, p := clear }

/-- The state with cells in memory and the bytes of an instruction at PC. -/
def placed (s : State) (cells : List Host.Cell) (bytes : List Byte) : State :=
  { s with mem := placeBytes bytes s.pc (cells.foldl (fun m cell => m.write cell.1 cell.2) []) }

/-- The next state, if there is one. -/
def next? : Result → Option State
  | .next t => some t
  | .fault _ => none
  | .refused _ => none

/-- The state after one step from there, if the step goes on. -/
def ran (s : State) (cells : List Host.Cell) (bytes : List Byte) : Option State := next? (step (placed s cells bytes))

/-- The refusal, if it is one. -/
def refusal? : Result → Option Refusal
  | .next _ => none
  | .fault _ => none
  | .refused r => some r

/-- The fault, if it is one. -/
def fault? : Result → Option Fault
  | .next _ => none
  | .fault r => some r
  | .refused _ => none

theorem next_of_isSome {r : Result} (h : (next? r).isSome = true) : ∃ t, r = .next t := by
  cases r with
  | next t => exact ⟨t, rfl⟩
  | fault r => simp [next?] at h
  | refused r => simp [next?] at h

/-! ## Decoding: every row of the table, its encoding spelled out, last byte first (R89, R90) -/

theorem test_decode_adc :
    decodeTableWord 16 0b11010010_01101001 = some (.adcImm 0xD2#8) ∧
    decodeTableWord 16 0b11010010_01100101 = some (.adcZp 0xD2#8) ∧
    decodeTableWord 16 0b11010010_01110101 = some (.adcZpx 0xD2#8) ∧
    decodeTableWord 24 0b00010010_10110100_01101101 = some (.adcAbs 0x12B4#16) ∧
    decodeTableWord 24 0b00010010_10110100_01111101 = some (.adcAbx 0x12B4#16) ∧
    decodeTableWord 24 0b00010010_10110100_01111001 = some (.adcAby 0x12B4#16) ∧
    decodeTableWord 16 0b11010010_01100001 = some (.adcIzx 0xD2#8) ∧
    decodeTableWord 16 0b11010010_01110001 = some (.adcIzy 0xD2#8) := by decide

theorem test_decode_asl :
    decodeTableWord 8 0b00001010 = some .aslAcc ∧
    decodeTableWord 16 0b11010010_00000110 = some (.aslZp 0xD2#8) ∧
    decodeTableWord 16 0b11010010_00010110 = some (.aslZpx 0xD2#8) ∧
    decodeTableWord 24 0b00010010_10110100_00001110 = some (.aslAbs 0x12B4#16) ∧
    decodeTableWord 24 0b00010010_10110100_00011110 = some (.aslAbx 0x12B4#16) := by decide

theorem test_decode_bcc :
    decodeTableWord 16 0b11010010_10010000 = some (.bcc 0xD2#8) := by decide

theorem test_decode_bcs :
    decodeTableWord 16 0b11010010_10110000 = some (.bcs 0xD2#8) := by decide

theorem test_decode_beq :
    decodeTableWord 16 0b11010010_11110000 = some (.beq 0xD2#8) := by decide

theorem test_decode_bit :
    decodeTableWord 16 0b11010010_00100100 = some (.bitZp 0xD2#8) ∧
    decodeTableWord 24 0b00010010_10110100_00101100 = some (.bitAbs 0x12B4#16) := by decide

theorem test_decode_bmi :
    decodeTableWord 16 0b11010010_00110000 = some (.bmi 0xD2#8) := by decide

theorem test_decode_bne :
    decodeTableWord 16 0b11010010_11010000 = some (.bne 0xD2#8) := by decide

theorem test_decode_bpl :
    decodeTableWord 16 0b11010010_00010000 = some (.bpl 0xD2#8) := by decide

theorem test_decode_bvc :
    decodeTableWord 16 0b11010010_01010000 = some (.bvc 0xD2#8) := by decide

theorem test_decode_bvs :
    decodeTableWord 16 0b11010010_01110000 = some (.bvs 0xD2#8) := by decide

theorem test_decode_cmp :
    decodeTableWord 16 0b11010010_11001001 = some (.cmpImm 0xD2#8) ∧
    decodeTableWord 16 0b11010010_11000101 = some (.cmpZp 0xD2#8) ∧
    decodeTableWord 16 0b11010010_11010101 = some (.cmpZpx 0xD2#8) ∧
    decodeTableWord 24 0b00010010_10110100_11001101 = some (.cmpAbs 0x12B4#16) ∧
    decodeTableWord 24 0b00010010_10110100_11011101 = some (.cmpAbx 0x12B4#16) ∧
    decodeTableWord 24 0b00010010_10110100_11011001 = some (.cmpAby 0x12B4#16) ∧
    decodeTableWord 16 0b11010010_11000001 = some (.cmpIzx 0xD2#8) ∧
    decodeTableWord 16 0b11010010_11010001 = some (.cmpIzy 0xD2#8) := by decide

theorem test_decode_cpx :
    decodeTableWord 16 0b11010010_11100000 = some (.cpxImm 0xD2#8) ∧
    decodeTableWord 16 0b11010010_11100100 = some (.cpxZp 0xD2#8) ∧
    decodeTableWord 24 0b00010010_10110100_11101100 = some (.cpxAbs 0x12B4#16) := by decide

theorem test_decode_cpy :
    decodeTableWord 16 0b11010010_11000000 = some (.cpyImm 0xD2#8) ∧
    decodeTableWord 16 0b11010010_11000100 = some (.cpyZp 0xD2#8) ∧
    decodeTableWord 24 0b00010010_10110100_11001100 = some (.cpyAbs 0x12B4#16) := by decide

theorem test_decode_jmp :
    decodeTableWord 24 0b00010010_10110100_01001100 = some (.jmpAbs 0x12B4#16) ∧
    decodeTableWord 24 0b00010010_10110100_01101100 = some (.jmpInd 0x12B4#16) := by decide

theorem test_decode_jsr :
    decodeTableWord 24 0b00010010_10110100_00100000 = some (.jsr 0x12B4#16) := by decide

theorem test_decode_lsr :
    decodeTableWord 8 0b01001010 = some .lsrAcc ∧
    decodeTableWord 16 0b11010010_01000110 = some (.lsrZp 0xD2#8) ∧
    decodeTableWord 16 0b11010010_01010110 = some (.lsrZpx 0xD2#8) ∧
    decodeTableWord 24 0b00010010_10110100_01001110 = some (.lsrAbs 0x12B4#16) ∧
    decodeTableWord 24 0b00010010_10110100_01011110 = some (.lsrAbx 0x12B4#16) := by decide

theorem test_decode_rol :
    decodeTableWord 8 0b00101010 = some .rolAcc ∧
    decodeTableWord 16 0b11010010_00100110 = some (.rolZp 0xD2#8) ∧
    decodeTableWord 16 0b11010010_00110110 = some (.rolZpx 0xD2#8) ∧
    decodeTableWord 24 0b00010010_10110100_00101110 = some (.rolAbs 0x12B4#16) ∧
    decodeTableWord 24 0b00010010_10110100_00111110 = some (.rolAbx 0x12B4#16) := by decide

theorem test_decode_ror :
    decodeTableWord 8 0b01101010 = some .rorAcc ∧
    decodeTableWord 16 0b11010010_01100110 = some (.rorZp 0xD2#8) ∧
    decodeTableWord 16 0b11010010_01110110 = some (.rorZpx 0xD2#8) ∧
    decodeTableWord 24 0b00010010_10110100_01101110 = some (.rorAbs 0x12B4#16) ∧
    decodeTableWord 24 0b00010010_10110100_01111110 = some (.rorAbx 0x12B4#16) := by decide

theorem test_decode_rti :
    decodeTableWord 8 0b01000000 = some .rti := by decide

theorem test_decode_rts :
    decodeTableWord 8 0b01100000 = some .rts := by decide

theorem test_decode_sbc :
    decodeTableWord 16 0b11010010_11101001 = some (.sbcImm 0xD2#8) ∧
    decodeTableWord 16 0b11010010_11100101 = some (.sbcZp 0xD2#8) ∧
    decodeTableWord 16 0b11010010_11110101 = some (.sbcZpx 0xD2#8) ∧
    decodeTableWord 24 0b00010010_10110100_11101101 = some (.sbcAbs 0x12B4#16) ∧
    decodeTableWord 24 0b00010010_10110100_11111101 = some (.sbcAbx 0x12B4#16) ∧
    decodeTableWord 24 0b00010010_10110100_11111001 = some (.sbcAby 0x12B4#16) ∧
    decodeTableWord 16 0b11010010_11100001 = some (.sbcIzx 0xD2#8) ∧
    decodeTableWord 16 0b11010010_11110001 = some (.sbcIzy 0xD2#8) := by decide

theorem test_decode_and :
    decodeTableWord 16 0b11010010_00101001 = some (.andImm 0xD2#8) ∧
    decodeTableWord 16 0b11010010_00100101 = some (.andZp 0xD2#8) ∧
    decodeTableWord 16 0b11010010_00110101 = some (.andZpx 0xD2#8) ∧
    decodeTableWord 24 0b00010010_10110100_00101101 = some (.andAbs 0x12B4#16) ∧
    decodeTableWord 24 0b00010010_10110100_00111101 = some (.andAbx 0x12B4#16) ∧
    decodeTableWord 24 0b00010010_10110100_00111001 = some (.andAby 0x12B4#16) ∧
    decodeTableWord 16 0b11010010_00100001 = some (.andIzx 0xD2#8) ∧
    decodeTableWord 16 0b11010010_00110001 = some (.andIzy 0xD2#8) := by decide

theorem test_decode_brk :
    decodeTableWord 8 0b00000000 = some .brk := by decide

theorem test_decode_clc :
    decodeTableWord 8 0b00011000 = some .clc := by decide

theorem test_decode_cld :
    decodeTableWord 8 0b11011000 = some .cld := by decide

theorem test_decode_cli :
    decodeTableWord 8 0b01011000 = some .cli := by decide

theorem test_decode_clv :
    decodeTableWord 8 0b10111000 = some .clv := by decide

theorem test_decode_dec :
    decodeTableWord 16 0b11010010_11000110 = some (.decZp 0xD2#8) ∧
    decodeTableWord 16 0b11010010_11010110 = some (.decZpx 0xD2#8) ∧
    decodeTableWord 24 0b00010010_10110100_11001110 = some (.decAbs 0x12B4#16) ∧
    decodeTableWord 24 0b00010010_10110100_11011110 = some (.decAbx 0x12B4#16) := by decide

theorem test_decode_dex :
    decodeTableWord 8 0b11001010 = some .dex := by decide

theorem test_decode_dey :
    decodeTableWord 8 0b10001000 = some .dey := by decide

theorem test_decode_eor :
    decodeTableWord 16 0b11010010_01001001 = some (.eorImm 0xD2#8) ∧
    decodeTableWord 16 0b11010010_01000101 = some (.eorZp 0xD2#8) ∧
    decodeTableWord 16 0b11010010_01010101 = some (.eorZpx 0xD2#8) ∧
    decodeTableWord 24 0b00010010_10110100_01001101 = some (.eorAbs 0x12B4#16) ∧
    decodeTableWord 24 0b00010010_10110100_01011101 = some (.eorAbx 0x12B4#16) ∧
    decodeTableWord 24 0b00010010_10110100_01011001 = some (.eorAby 0x12B4#16) ∧
    decodeTableWord 16 0b11010010_01000001 = some (.eorIzx 0xD2#8) ∧
    decodeTableWord 16 0b11010010_01010001 = some (.eorIzy 0xD2#8) := by decide

theorem test_decode_inc :
    decodeTableWord 16 0b11010010_11100110 = some (.incZp 0xD2#8) ∧
    decodeTableWord 16 0b11010010_11110110 = some (.incZpx 0xD2#8) ∧
    decodeTableWord 24 0b00010010_10110100_11101110 = some (.incAbs 0x12B4#16) ∧
    decodeTableWord 24 0b00010010_10110100_11111110 = some (.incAbx 0x12B4#16) := by decide

theorem test_decode_inx :
    decodeTableWord 8 0b11101000 = some .inx := by decide

theorem test_decode_iny :
    decodeTableWord 8 0b11001000 = some .iny := by decide

theorem test_decode_lda :
    decodeTableWord 16 0b11010010_10101001 = some (.ldaImm 0xD2#8) ∧
    decodeTableWord 16 0b11010010_10100101 = some (.ldaZp 0xD2#8) ∧
    decodeTableWord 16 0b11010010_10110101 = some (.ldaZpx 0xD2#8) ∧
    decodeTableWord 24 0b00010010_10110100_10101101 = some (.ldaAbs 0x12B4#16) ∧
    decodeTableWord 24 0b00010010_10110100_10111101 = some (.ldaAbx 0x12B4#16) ∧
    decodeTableWord 24 0b00010010_10110100_10111001 = some (.ldaAby 0x12B4#16) ∧
    decodeTableWord 16 0b11010010_10100001 = some (.ldaIzx 0xD2#8) ∧
    decodeTableWord 16 0b11010010_10110001 = some (.ldaIzy 0xD2#8) := by decide

theorem test_decode_ldx :
    decodeTableWord 16 0b11010010_10100010 = some (.ldxImm 0xD2#8) ∧
    decodeTableWord 16 0b11010010_10100110 = some (.ldxZp 0xD2#8) ∧
    decodeTableWord 16 0b11010010_10110110 = some (.ldxZpy 0xD2#8) ∧
    decodeTableWord 24 0b00010010_10110100_10101110 = some (.ldxAbs 0x12B4#16) ∧
    decodeTableWord 24 0b00010010_10110100_10111110 = some (.ldxAby 0x12B4#16) := by decide

theorem test_decode_ldy :
    decodeTableWord 16 0b11010010_10100000 = some (.ldyImm 0xD2#8) ∧
    decodeTableWord 16 0b11010010_10100100 = some (.ldyZp 0xD2#8) ∧
    decodeTableWord 16 0b11010010_10110100 = some (.ldyZpx 0xD2#8) ∧
    decodeTableWord 24 0b00010010_10110100_10101100 = some (.ldyAbs 0x12B4#16) ∧
    decodeTableWord 24 0b00010010_10110100_10111100 = some (.ldyAbx 0x12B4#16) := by decide

theorem test_decode_nop :
    decodeTableWord 8 0b11101010 = some .nop := by decide

theorem test_decode_ora :
    decodeTableWord 16 0b11010010_00001001 = some (.oraImm 0xD2#8) ∧
    decodeTableWord 16 0b11010010_00000101 = some (.oraZp 0xD2#8) ∧
    decodeTableWord 16 0b11010010_00010101 = some (.oraZpx 0xD2#8) ∧
    decodeTableWord 24 0b00010010_10110100_00001101 = some (.oraAbs 0x12B4#16) ∧
    decodeTableWord 24 0b00010010_10110100_00011101 = some (.oraAbx 0x12B4#16) ∧
    decodeTableWord 24 0b00010010_10110100_00011001 = some (.oraAby 0x12B4#16) ∧
    decodeTableWord 16 0b11010010_00000001 = some (.oraIzx 0xD2#8) ∧
    decodeTableWord 16 0b11010010_00010001 = some (.oraIzy 0xD2#8) := by decide

theorem test_decode_pha :
    decodeTableWord 8 0b01001000 = some .pha := by decide

theorem test_decode_php :
    decodeTableWord 8 0b00001000 = some .php := by decide

theorem test_decode_pla :
    decodeTableWord 8 0b01101000 = some .pla := by decide

theorem test_decode_plp :
    decodeTableWord 8 0b00101000 = some .plp := by decide

theorem test_decode_sec :
    decodeTableWord 8 0b00111000 = some .sec := by decide

theorem test_decode_sed :
    decodeTableWord 8 0b11111000 = some .sed := by decide

theorem test_decode_sei :
    decodeTableWord 8 0b01111000 = some .sei := by decide

theorem test_decode_sta :
    decodeTableWord 16 0b11010010_10000101 = some (.staZp 0xD2#8) ∧
    decodeTableWord 16 0b11010010_10010101 = some (.staZpx 0xD2#8) ∧
    decodeTableWord 24 0b00010010_10110100_10001101 = some (.staAbs 0x12B4#16) ∧
    decodeTableWord 24 0b00010010_10110100_10011101 = some (.staAbx 0x12B4#16) ∧
    decodeTableWord 24 0b00010010_10110100_10011001 = some (.staAby 0x12B4#16) ∧
    decodeTableWord 16 0b11010010_10000001 = some (.staIzx 0xD2#8) ∧
    decodeTableWord 16 0b11010010_10010001 = some (.staIzy 0xD2#8) := by decide

theorem test_decode_stx :
    decodeTableWord 16 0b11010010_10000110 = some (.stxZp 0xD2#8) ∧
    decodeTableWord 16 0b11010010_10010110 = some (.stxZpy 0xD2#8) ∧
    decodeTableWord 24 0b00010010_10110100_10001110 = some (.stxAbs 0x12B4#16) := by decide

theorem test_decode_sty :
    decodeTableWord 16 0b11010010_10000100 = some (.styZp 0xD2#8) ∧
    decodeTableWord 16 0b11010010_10010100 = some (.styZpx 0xD2#8) ∧
    decodeTableWord 24 0b00010010_10110100_10001100 = some (.styAbs 0x12B4#16) := by decide

theorem test_decode_tax :
    decodeTableWord 8 0b10101010 = some .tax := by decide

theorem test_decode_tay :
    decodeTableWord 8 0b10101000 = some .tay := by decide

theorem test_decode_tsx :
    decodeTableWord 8 0b10111010 = some .tsx := by decide

theorem test_decode_txa :
    decodeTableWord 8 0b10001010 = some .txa := by decide

theorem test_decode_txs :
    decodeTableWord 8 0b10011010 = some .txs := by decide

theorem test_decode_tya :
    decodeTableWord 8 0b10011000 = some .tya := by decide

/-! ## Decoding: what is no instruction, the encoder, the table's cycle counts -/

/-- V-REF-1, V-REF-4, V-REF-6 (R92). -/
theorem test_decode_undefined :
    decodeTableWord 8 0x02 = none ∧ decodeTableWord 8 0xFF = none ∧ decodeTableWord 16 0x0089 = none := by decide

theorem test_decode_truncated :
    (match decode [0x6D#8, 0x34#8] with
    | .error e => some e
    | .ok _ => none) = some .truncated := by decide

theorem test_encode_low_byte_first : encode (.adcAbs 0x1234#16) = [0x6D#8, 0x34#8, 0x12#8] := by decide

/-- The base cycle counts of the timing function are the table's (R361, R362). -/
theorem test_base_cycles_are_the_tables :
    (opcodeTable.all fun row =>
      match row.build with
      | .implied i => baseCycles i == row.cycles && i.mnemonic == row.mnemonic && i.mode == row.mode
      | .oneByte f => baseCycles (f 0#8) == row.cycles && (f 0#8).mnemonic == row.mnemonic && (f 0#8).mode == row.mode
      | .twoBytes f => baseCycles (f 0#16) == row.cycles && (f 0#16).mnemonic == row.mnemonic && (f 0#16).mode == row.mode)
      = true := by decide

/-- V-ADC-12, V-ADC-13, V-STA-5, V-BR-2, V-BR-23, V-BR-24 (R363, R364). -/
theorem test_cycles :
    cycles (.adcAbx 0x12F0#16) { start with x := 0x0F#8 } = 4 ∧ cycles (.adcAbx 0x12F0#16) { start with x := 0x10#8 } = 5 ∧
    cycles (.staAbx 0x4000#16) { start with x := 0x01#8 } = 5 ∧
    cycles (.bcc 0x10#8) { start with p := { clear with c := true } } = 2 ∧
    cycles (.bne 0xAB#8) { start with pc := 0x015A#16 } = 3 ∧ cycles (.bne 0xAB#8) { start with pc := 0x0105#16 } = 4 := by
  decide

/-! ## Which instructions the part has: one refused term for each check (R90, R94) -/

theorem test_wellFormed_refuses_tier_g : wellFormed { Config.defaults with admitTierG := false } (.ldaImm 0x00#8) = false := by
  decide

theorem test_wellFormed_refuses_ror : wellFormed { Config.defaults with hasRor := false } .rorAcc = false := by decide

theorem test_wellFormed_admits : wellFormed Config.defaults (.ldaImm 0x00#8) = true ∧ wellFormed Config.defaults .rorAcc = true ∧
    wellFormed { Config.defaults with admitTierG := false, hasRor := false } (.adcImm 0x00#8) = true := by decide

/-- V-REF-1. -/
theorem test_step_refuses_undefined :
    refusal? (step (placed start [] [0x02#8])) = some (.undefinedOpcode 0x02#8) := by decide

/-- V-REF-2. -/
theorem test_step_refuses_tier_g :
    refusal? (step (placed { start with params := { Config.defaults with admitTierG := false } } [] [0xA9#8, 0x00#8])) =
      some (.undefinedOpcode 0xA9#8) := by decide

/-- V-REF-3. -/
theorem test_step_refuses_ror :
    refusal? (step (placed { start with params := { Config.defaults with hasRor := false } } [] [0x6A#8])) =
      some (.undefinedOpcode 0x6A#8) := by decide

/-- V-REF-5. -/
theorem test_step_refuses_decimal_operand :
    refusal? (step (placed { start with
      p := { clear with d := true } } [] [0x69#8, 0x0A#8])) =
      some (.invalidDecimalOperand 0x00#8 0x0A#8) := by decide

/-! ## Instructions -/

/-- V-ADC-5 (R141). -/
theorem test_adcImm :
    (ran { start with a := 0xFF#8, p := { clear with c := true } } [] [0x69#8, 0xFF#8]).map
      (fun t => (t.a, t.p.n, t.p.v, t.p.z, t.p.c)) = some (0xFF#8, true, false, false, true) := by decide

/-- V-ADC-9 (R141). -/
theorem test_adcZp :
    (ran { start with a := 0x20#8, p := { clear with c := true } } [(0x0010, 0x30#8)] [0x65#8, 0x10#8]).map
      (fun t => (t.a, t.p.n, t.p.v, t.p.z, t.p.c)) = some (0x51#8, false, false, false, false) := by decide

/-- V-ADC-10 (R141). -/
theorem test_adcZpx :
    (ran { start with a := 0x01#8, x := 0x20#8 } [(0x0010, 0x05#8), (0x0110, 0xEE#8)] [0x75#8, 0xF0#8]).map
      (fun t => (t.a, t.p.n, t.p.v, t.p.z, t.p.c)) = some (0x06#8, false, false, false, false) := by decide

/-- V-ADC-11 (R141). -/
theorem test_adcAbs :
    (ran { start with a := 0x01#8 } [(0x1234, 0xFE#8)] [0x6D#8, 0x34#8, 0x12#8]).map
      (fun t => (t.a, t.p.n, t.p.v, t.p.z, t.p.c)) = some (0xFF#8, true, false, false, false) := by decide

/-- V-ADC-13 (R141). -/
theorem test_adcAbx :
    (ran { start with a := 0x10#8, x := 0x10#8 } [(0x1200, 0x99#8), (0x1300, 0x02#8)] [0x7D#8, 0xF0#8, 0x12#8]).map
      (fun t => (t.a, t.p.n, t.p.v, t.p.z, t.p.c)) = some (0x12#8, false, false, false, false) := by decide

/-- V-ADC-14 (R141). -/
theorem test_adcAby :
    (ran { start with a := 0x00#8, y := 0x02#8 } [(0x0001, 0x44#8)] [0x79#8, 0xFF#8, 0xFF#8]).map
      (fun t => (t.a, t.p.n, t.p.v, t.p.z, t.p.c)) = some (0x44#8, false, false, false, false) := by decide

/-- V-ADC-15 (R141). -/
theorem test_adcIzx :
    (ran { start with a := 0x00#8, x := 0x01#8 } [(0x0000, 0x30#8), (0x00FF, 0x00#8), (0x0100, 0x99#8), (0x3000, 0x07#8)] [0x61#8, 0xFE#8]).map
      (fun t => (t.a, t.p.n, t.p.v, t.p.z, t.p.c)) = some (0x07#8, false, false, false, false) := by decide

/-- V-ADC-16 (R141). -/
theorem test_adcIzy :
    (ran { start with a := 0x00#8, y := 0x01#8 } [(0x0040, 0xFF#8), (0x0041, 0x20#8), (0x2100, 0x55#8)] [0x71#8, 0x40#8]).map
      (fun t => (t.a, t.p.n, t.p.v, t.p.z, t.p.c)) = some (0x55#8, false, false, false, false) := by decide

/-- V-SBC-4 (R143). -/
theorem test_sbcImm :
    (ran { start with a := 0x80#8, p := { clear with c := true } } [] [0xE9#8, 0x01#8]).map
      (fun t => (t.a, t.p.n, t.p.v, t.p.z, t.p.c)) = some (0x7F#8, false, true, false, true) := by decide

/-- V-SBC-9 (R143). -/
theorem test_sbcZp :
    (ran { start with a := 0x50#8, p := { clear with c := true } } [(0x0010, 0xF0#8)] [0xE5#8, 0x10#8]).map
      (fun t => (t.a, t.p.n, t.p.v, t.p.z, t.p.c)) = some (0x60#8, false, false, false, false) := by decide

/-- V-SBC-10 (R143). -/
theorem test_sbcZpx :
    (ran { start with a := 0x10#8, x := 0xFF#8, p := { clear with c := true } } [(0x000F, 0x01#8), (0x010F, 0x77#8)] [0xF5#8, 0x10#8]).map
      (fun t => (t.a, t.p.n, t.p.v, t.p.z, t.p.c)) = some (0x0F#8, false, false, false, true) := by decide

/-- V-SBC-11 (R143). -/
theorem test_sbcAbs :
    (ran { start with a := 0x40#8 } [(0x3000, 0x3F#8)] [0xED#8, 0x00#8, 0x30#8]).map
      (fun t => (t.a, t.p.n, t.p.v, t.p.z, t.p.c)) = some (0x00#8, false, false, true, true) := by decide

/-- V-SBC-12 (R143). -/
theorem test_sbcAbx :
    (ran { start with a := 0x40#8, x := 0x01#8, p := { clear with c := true } } [(0x3100, 0x41#8)] [0xFD#8, 0xFF#8, 0x30#8]).map
      (fun t => (t.a, t.p.n, t.p.v, t.p.z, t.p.c)) = some (0xFF#8, true, false, false, false) := by decide

/-- V-SBC-13 (R143). -/
theorem test_sbcAby :
    (ran { start with a := 0x40#8, y := 0xFF#8, p := { clear with c := true } } [(0x30FF, 0x40#8)] [0xF9#8, 0x00#8, 0x30#8]).map
      (fun t => (t.a, t.p.n, t.p.v, t.p.z, t.p.c)) = some (0x00#8, false, false, true, true) := by decide

/-- V-SBC-14 (R143). -/
theorem test_sbcIzx :
    (ran { start with a := 0x09#8, x := 0x04#8, p := { clear with c := true } } [(0x0024, 0x00#8), (0x0025, 0x40#8), (0x4000, 0x0A#8)] [0xE1#8, 0x20#8]).map
      (fun t => (t.a, t.p.n, t.p.v, t.p.z, t.p.c)) = some (0xFF#8, true, false, false, false) := by decide

/-- V-SBC-15 (R143). -/
theorem test_sbcIzy :
    (ran { start with a := 0x09#8, y := 0x10#8, p := { clear with c := true } } [(0x0020, 0xF8#8), (0x0021, 0x40#8), (0x4108, 0x09#8)] [0xF1#8, 0x20#8]).map
      (fun t => (t.a, t.p.n, t.p.v, t.p.z, t.p.c)) = some (0x00#8, false, false, true, true) := by decide

/-- V-CMP-4 (R145). -/
theorem test_cmpImm :
    (ran { start with a := 0x80#8 } [] [0xC9#8, 0x01#8]).map
      (fun t => (t.a, t.p.n, t.p.z, t.p.c, t.p.v)) = some (0x80#8, false, false, true, false) := by decide

/-- V-CMP-9 (R145). -/
theorem test_cmpZp :
    (ran { start with a := 0x40#8 } [(0x0030, 0x41#8)] [0xC5#8, 0x30#8]).map
      (fun t => (t.a, t.p.n, t.p.z, t.p.c, t.p.v)) = some (0x40#8, true, false, false, false) := by decide

/-- V-CMP-10 (R145). -/
theorem test_cmpZpx :
    (ran { start with a := 0x40#8, x := 0x01#8 } [(0x0031, 0x40#8)] [0xD5#8, 0x30#8]).map
      (fun t => (t.a, t.p.n, t.p.z, t.p.c, t.p.v)) = some (0x40#8, false, true, true, false) := by decide

/-- V-CMP-11 (R145). -/
theorem test_cmpAbs :
    (ran { start with a := 0x01#8 } [(0x2000, 0x00#8)] [0xCD#8, 0x00#8, 0x20#8]).map
      (fun t => (t.a, t.p.n, t.p.z, t.p.c, t.p.v)) = some (0x01#8, false, false, true, false) := by decide

/-- V-CMP-12 (R145). -/
theorem test_cmpAbx :
    (ran { start with a := 0x01#8, x := 0x80#8 } [(0x2100, 0x02#8)] [0xDD#8, 0x80#8, 0x20#8]).map
      (fun t => (t.a, t.p.n, t.p.z, t.p.c, t.p.v)) = some (0x01#8, true, false, false, false) := by decide

/-- V-CMP-13 (R145). -/
theorem test_cmpAby :
    (ran { start with a := 0x01#8, y := 0x7F#8 } [(0x20FF, 0x01#8)] [0xD9#8, 0x80#8, 0x20#8]).map
      (fun t => (t.a, t.p.n, t.p.z, t.p.c, t.p.v)) = some (0x01#8, false, true, true, false) := by decide

/-- V-CMP-14 (R145). -/
theorem test_cmpIzx :
    (ran { start with a := 0x55#8, x := 0xFF#8 } [(0x0000, 0x12#8), (0x00FF, 0x34#8), (0x1234, 0x55#8)] [0xC1#8, 0x00#8]).map
      (fun t => (t.a, t.p.n, t.p.z, t.p.c, t.p.v)) = some (0x55#8, false, true, true, false) := by decide

/-- V-CMP-15 (R145). -/
theorem test_cmpIzy :
    (ran { start with a := 0x55#8, y := 0xFF#8 } [(0x0010, 0x01#8), (0x0011, 0x12#8), (0x1300, 0x56#8)] [0xD1#8, 0x10#8]).map
      (fun t => (t.a, t.p.n, t.p.z, t.p.c, t.p.v)) = some (0x55#8, true, false, false, false) := by decide

/-- V-CPX-1 (R146). -/
theorem test_cpxImm :
    (ran { start with x := 0x05#8 } [] [0xE0#8, 0x05#8]).map
      (fun t => (t.p.n, t.p.z, t.p.c, t.p.v)) = some (false, true, true, false) := by decide

/-- V-CPX-2 (R146). -/
theorem test_cpxZp :
    (ran { start with x := 0x04#8 } [(0x0010, 0x05#8)] [0xE4#8, 0x10#8]).map
      (fun t => (t.p.n, t.p.z, t.p.c, t.p.v)) = some (true, false, false, false) := by decide

/-- V-CPX-3 (R146). -/
theorem test_cpxAbs :
    (ran { start with x := 0xFF#8 } [(0x4000, 0x01#8)] [0xEC#8, 0x00#8, 0x40#8]).map
      (fun t => (t.p.n, t.p.z, t.p.c, t.p.v)) = some (true, false, true, false) := by decide

/-- V-CPY-1 (R147). -/
theorem test_cpyImm :
    (ran { start with y := 0x00#8 } [] [0xC0#8, 0x00#8]).map
      (fun t => (t.p.n, t.p.z, t.p.c, t.p.v)) = some (false, true, true, false) := by decide

/-- V-CPY-2 (R147). -/
theorem test_cpyZp :
    (ran { start with y := 0x80#8 } [(0x0010, 0x7F#8)] [0xC4#8, 0x10#8]).map
      (fun t => (t.p.n, t.p.z, t.p.c, t.p.v)) = some (false, false, true, false) := by decide

/-- V-CPY-3 (R147). -/
theorem test_cpyAbs :
    (ran { start with y := 0x00#8 } [(0x4000, 0x01#8)] [0xCC#8, 0x00#8, 0x40#8]).map
      (fun t => (t.p.n, t.p.z, t.p.c, t.p.v)) = some (true, false, false, false) := by decide

/-- V-BIT-1 (R148). -/
theorem test_bitZp :
    (ran { start with a := 0x01#8 } [(0x0010, 0xC0#8)] [0x24#8, 0x10#8]).map
      (fun t => (t.a, t.p.n, t.p.v, t.p.z, t.p.c)) = some (0x01#8, true, true, true, false) := by decide

/-- V-BIT-5 (R148). -/
theorem test_bitAbs :
    (ran { start with a := 0x0F#8 } [(0x3000, 0x4F#8)] [0x2C#8, 0x00#8, 0x30#8]).map
      (fun t => (t.a, t.p.n, t.p.v, t.p.z, t.p.c)) = some (0x0F#8, false, true, false, false) := by decide

/-- V-ASL-1 (R171). -/
theorem test_aslAcc :
    (ran { start with a := 0x81#8 } [] [0x0A#8]).map
      (fun t => (t.a, t.p.n, t.p.z, t.p.c)) = some (0x02#8, false, false, true) := by decide

/-- V-ASL-4 (R171). -/
theorem test_aslZp :
    (ran start [(0x0010, 0x55#8)] [0x06#8, 0x10#8]).map
      (fun t => (t.p.n, t.p.z, t.p.c, t.byteAt 0x0010#16)) = some (true, false, false, 0xAA#8) := by decide

/-- V-ASL-5 (R171). -/
theorem test_aslZpx :
    (ran { start with x := 0x02#8 } [(0x0001, 0xFF#8)] [0x16#8, 0xFF#8]).map
      (fun t => (t.p.n, t.p.z, t.p.c, t.byteAt 0x0001#16)) = some (true, false, true, 0xFE#8) := by decide

/-- V-ASL-6 (R171). -/
theorem test_aslAbs :
    (ran { start with p := { clear with c := true } } [(0x2000, 0x00#8)] [0x0E#8, 0x00#8, 0x20#8]).map
      (fun t => (t.p.n, t.p.z, t.p.c, t.byteAt 0x2000#16)) = some (false, true, false, 0x00#8) := by decide

/-- V-ASL-7 (R171). -/
theorem test_aslAbx :
    (ran { start with x := 0x01#8 } [(0x2100, 0xC0#8)] [0x1E#8, 0xFF#8, 0x20#8]).map
      (fun t => (t.p.n, t.p.z, t.p.c, t.byteAt 0x2100#16)) = some (true, false, true, 0x80#8) := by decide

/-- V-LSR-2 (R172). -/
theorem test_lsrAcc :
    (ran { start with a := 0x80#8, p := { clear with c := true, n := true } } [] [0x4A#8]).map
      (fun t => (t.a, t.p.n, t.p.z, t.p.c)) = some (0x40#8, false, false, false) := by decide

/-- V-LSR-4 (R172). -/
theorem test_lsrZp :
    (ran start [(0x0010, 0x02#8)] [0x46#8, 0x10#8]).map
      (fun t => (t.p.n, t.p.z, t.p.c, t.byteAt 0x0010#16)) = some (false, false, false, 0x01#8) := by decide

/-- V-LSR-5 (R172). -/
theorem test_lsrZpx :
    (ran { start with x := 0x01#8 } [(0x0011, 0x03#8)] [0x56#8, 0x10#8]).map
      (fun t => (t.p.n, t.p.z, t.p.c, t.byteAt 0x0011#16)) = some (false, false, true, 0x01#8) := by decide

/-- V-LSR-6 (R172). -/
theorem test_lsrAbs :
    (ran { start with p := { clear with c := true } } [(0x2000, 0x00#8)] [0x4E#8, 0x00#8, 0x20#8]).map
      (fun t => (t.p.n, t.p.z, t.p.c, t.byteAt 0x2000#16)) = some (false, true, false, 0x00#8) := by decide

/-- V-LSR-7 (R172). -/
theorem test_lsrAbx :
    (ran { start with x := 0x05#8 } [(0x2005, 0xFE#8)] [0x5E#8, 0x00#8, 0x20#8]).map
      (fun t => (t.p.n, t.p.z, t.p.c, t.byteAt 0x2005#16)) = some (false, false, false, 0x7F#8) := by decide

/-- V-ROL-3 (R173). -/
theorem test_rolAcc :
    (ran { start with a := 0x40#8, p := { clear with c := true } } [] [0x2A#8]).map
      (fun t => (t.a, t.p.n, t.p.z, t.p.c)) = some (0x81#8, true, false, false) := by decide

/-- V-ROL-4 (R173). -/
theorem test_rolZp :
    (ran { start with p := { clear with c := true } } [(0x0010, 0x7F#8)] [0x26#8, 0x10#8]).map
      (fun t => (t.p.n, t.p.z, t.p.c, t.byteAt 0x0010#16)) = some (true, false, false, 0xFF#8) := by decide

/-- V-ROL-5 (R173). -/
theorem test_rolZpx :
    (ran { start with x := 0xF0#8 } [(0x0000, 0x80#8)] [0x36#8, 0x10#8]).map
      (fun t => (t.p.n, t.p.z, t.p.c, t.byteAt 0x0000#16)) = some (false, true, true, 0x00#8) := by decide

/-- V-ROL-6 (R173). -/
theorem test_rolAbs :
    (ran { start with p := { clear with c := true } } [(0x2000, 0xFF#8)] [0x2E#8, 0x00#8, 0x20#8]).map
      (fun t => (t.p.n, t.p.z, t.p.c, t.byteAt 0x2000#16)) = some (true, false, true, 0xFF#8) := by decide

/-- V-ROL-7 (R173). -/
theorem test_rolAbx :
    (ran { start with x := 0x80#8 } [(0x2100, 0x01#8)] [0x3E#8, 0x80#8, 0x20#8]).map
      (fun t => (t.p.n, t.p.z, t.p.c, t.byteAt 0x2100#16)) = some (false, false, false, 0x02#8) := by decide

/-- V-ROR-3 (R174). -/
theorem test_rorAcc :
    (ran { start with a := 0x02#8, p := { clear with c := true } } [] [0x6A#8]).map
      (fun t => (t.a, t.p.n, t.p.z, t.p.c)) = some (0x81#8, true, false, false) := by decide

/-- V-ROR-4 (R174). -/
theorem test_rorZp :
    (ran { start with p := { clear with c := true } } [(0x0010, 0xFE#8)] [0x66#8, 0x10#8]).map
      (fun t => (t.p.n, t.p.z, t.p.c, t.byteAt 0x0010#16)) = some (true, false, false, 0xFF#8) := by decide

/-- V-ROR-5 (R174). -/
theorem test_rorZpx :
    (ran { start with x := 0x01#8 } [(0x0011, 0x01#8)] [0x76#8, 0x10#8]).map
      (fun t => (t.p.n, t.p.z, t.p.c, t.byteAt 0x0011#16)) = some (false, true, true, 0x00#8) := by decide

/-- V-ROR-6 (R174). -/
theorem test_rorAbs :
    (ran start [(0x2000, 0x80#8)] [0x6E#8, 0x00#8, 0x20#8]).map
      (fun t => (t.p.n, t.p.z, t.p.c, t.byteAt 0x2000#16)) = some (false, false, false, 0x40#8) := by decide

/-- V-ROR-7 (R174). -/
theorem test_rorAbx :
    (ran { start with x := 0xFF#8, p := { clear with c := true } } [(0x20FF, 0x00#8)] [0x7E#8, 0x00#8, 0x20#8]).map
      (fun t => (t.p.n, t.p.z, t.p.c, t.byteAt 0x20FF#16)) = some (true, false, false, 0x80#8) := by decide

/-- V-JMP-1 (R210). -/
theorem test_jmpAbs :
    (ran start [] [0x4C#8, 0x34#8, 0x12#8]).map
      (fun t => (t.pc, t.p.pack true)) = some (0x1234#16, 0x30#8) := by decide

/-- V-JMP-4 (R211). -/
theorem test_jmpInd :
    (ran start [(0x1200, 0x40#8), (0x12FF, 0x00#8), (0x1300, 0x50#8)] [0x6C#8, 0xFF#8, 0x12#8]).map
      (fun t => (t.pc, t.p.pack true)) = some (0x4000#16, 0x30#8) := by decide

/-- V-JSR-2 (R212). -/
theorem test_jsr :
    (ran { start with sp := 0x01#8, pc := 0x06FE#16 } [] [0x20#8, 0x00#8, 0x30#8]).map
      (fun t => (t.pc, t.sp, t.byteAt 0x0101#16, t.byteAt 0x0100#16, t.p.pack true)) = some (0x3000#16, 0xFF#8, 0x07#8, 0x00#8, 0x30#8) := by decide

/-- V-RTS-3 (R213). -/
theorem test_rts :
    (ran { start with sp := 0xFF#8, pc := 0x3000#16 } [(0x0100, 0x10#8), (0x0101, 0x20#8)] [0x60#8]).map
      (fun t => (t.pc, t.sp, t.p.pack true)) = some (0x2011#16, 0x01#8, 0x30#8) := by decide

/-- V-RTI-4 (R214). -/
theorem test_rti :
    (ran { start with sp := 0xFE#8, pc := 0x8000#16 } [(0x0100, 0x78#8), (0x0101, 0x56#8), (0x01FF, 0x81#8)] [0x40#8]).map
      (fun t => (t.pc, t.sp, t.p.pack true)) = some (0x5678#16, 0x01#8, 0xB1#8) := by decide

/-- V-LDA-2 (R231). -/
theorem test_ldaImm :
    (ran start [] [0xA9#8, 0x80#8]).map
      (fun t => (t.a, t.p.n, t.p.z)) = some (0x80#8, true, false) := by decide

/-- V-LDA-3 (R231). -/
theorem test_ldaZp :
    (ran start [(0x0010, 0x7F#8)] [0xA5#8, 0x10#8]).map
      (fun t => (t.a, t.p.n, t.p.z)) = some (0x7F#8, false, false) := by decide

/-- V-LDA-4 (R231). -/
theorem test_ldaZpx :
    (ran { start with x := 0xFF#8 } [(0x007F, 0x01#8), (0x017F, 0x99#8)] [0xB5#8, 0x80#8]).map
      (fun t => (t.a, t.p.n, t.p.z)) = some (0x01#8, false, false) := by decide

/-- V-LDA-5 (R231). -/
theorem test_ldaAbs :
    (ran start [(0x4000, 0xFF#8)] [0xAD#8, 0x00#8, 0x40#8]).map
      (fun t => (t.a, t.p.n, t.p.z)) = some (0xFF#8, true, false) := by decide

/-- V-LDA-6 (R231). -/
theorem test_ldaAbx :
    (ran { start with x := 0xFF#8 } [(0x4100, 0x11#8)] [0xBD#8, 0x01#8, 0x40#8]).map
      (fun t => (t.a, t.p.n, t.p.z)) = some (0x11#8, false, false) := by decide

/-- V-LDA-7 (R231). -/
theorem test_ldaAby :
    (ran { start with y := 0x01#8 } [(0x4002, 0x22#8)] [0xB9#8, 0x01#8, 0x40#8]).map
      (fun t => (t.a, t.p.n, t.p.z)) = some (0x22#8, false, false) := by decide

/-- V-LDA-8 (R231). -/
theorem test_ldaIzx :
    (ran { start with x := 0x02#8 } [(0x0012, 0x00#8), (0x0013, 0x50#8), (0x5000, 0x33#8)] [0xA1#8, 0x10#8]).map
      (fun t => (t.a, t.p.n, t.p.z)) = some (0x33#8, false, false) := by decide

/-- V-LDA-9 (R231). -/
theorem test_ldaIzy :
    (ran { start with y := 0x02#8 } [(0x0010, 0xFF#8), (0x0011, 0x4F#8), (0x5001, 0x44#8)] [0xB1#8, 0x10#8]).map
      (fun t => (t.a, t.p.n, t.p.z)) = some (0x44#8, false, false) := by decide

/-- V-LDX-1 (R232). -/
theorem test_ldxImm :
    (ran start [] [0xA2#8, 0xFF#8]).map
      (fun t => (t.x, t.p.n, t.p.z)) = some (0xFF#8, true, false) := by decide

/-- V-LDX-2 (R232). -/
theorem test_ldxZpy :
    (ran { start with y := 0xF8#8 } [(0x0008, 0x09#8)] [0xB6#8, 0x10#8]).map
      (fun t => (t.x, t.p.n, t.p.z)) = some (0x09#8, false, false) := by decide

/-- V-LDX-3 (R232). -/
theorem test_ldxAby :
    (ran { start with y := 0x01#8 } [(0x4100, 0x00#8)] [0xBE#8, 0xFF#8, 0x40#8]).map
      (fun t => (t.x, t.p.n, t.p.z)) = some (0x00#8, false, true) := by decide

/-- V-LDY-1 (R233). -/
theorem test_ldyImm :
    (ran start [] [0xA0#8, 0x01#8]).map
      (fun t => (t.y, t.p.n, t.p.z)) = some (0x01#8, false, false) := by decide

/-- V-LDY-2 (R233). -/
theorem test_ldyZpx :
    (ran { start with x := 0x01#8 } [(0x0011, 0x80#8)] [0xB4#8, 0x10#8]).map
      (fun t => (t.y, t.p.n, t.p.z)) = some (0x80#8, true, false) := by decide

/-- V-LDY-3 (R233). -/
theorem test_ldyAbx :
    (ran { start with x := 0x10#8 } [(0x4010, 0x00#8)] [0xBC#8, 0x00#8, 0x40#8]).map
      (fun t => (t.y, t.p.n, t.p.z)) = some (0x00#8, false, true) := by decide

/-- V-STA-1 (R234). -/
theorem test_staZp :
    (ran { start with a := 0x00#8, p := { clear with n := true } } [] [0x85#8, 0x10#8]).map
      (fun t => (t.p.n, t.p.z, t.byteAt 0x0010#16)) = some (true, false, 0x00#8) := by decide

/-- V-STA-2 (R234). -/
theorem test_staZpx :
    (ran { start with a := 0xAB#8, x := 0x01#8 } [] [0x95#8, 0xFF#8]).map
      (fun t => (t.p.n, t.p.z, t.byteAt 0x0000#16)) = some (false, false, 0xAB#8) := by decide

/-- V-STA-3 (R234). -/
theorem test_staAbs :
    (ran { start with a := 0x80#8 } [] [0x8D#8, 0x00#8, 0x40#8]).map
      (fun t => (t.p.n, t.p.z, t.byteAt 0x4000#16)) = some (false, false, 0x80#8) := by decide

/-- V-STA-4 (R234). -/
theorem test_staAbx :
    (ran { start with a := 0x12#8, x := 0x01#8 } [] [0x9D#8, 0xFF#8, 0x40#8]).map
      (fun t => (t.p.n, t.p.z, t.byteAt 0x4100#16)) = some (false, false, 0x12#8) := by decide

/-- V-STA-6 (R234). -/
theorem test_staAby :
    (ran { start with a := 0x34#8, y := 0xFF#8 } [] [0x99#8, 0x00#8, 0x40#8]).map
      (fun t => (t.p.n, t.p.z, t.byteAt 0x40FF#16)) = some (false, false, 0x34#8) := by decide

/-- V-STA-7 (R234). -/
theorem test_staIzx :
    (ran { start with a := 0x56#8, x := 0x00#8 } [(0x0000, 0x60#8), (0x00FF, 0x00#8), (0x0100, 0x70#8)] [0x81#8, 0xFF#8]).map
      (fun t => (t.p.n, t.p.z, t.byteAt 0x6000#16)) = some (false, false, 0x56#8) := by decide

/-- V-STA-8 (R234). -/
theorem test_staIzy :
    (ran { start with a := 0x78#8, y := 0x01#8 } [(0x0020, 0xFF#8), (0x0021, 0x60#8)] [0x91#8, 0x20#8]).map
      (fun t => (t.p.n, t.p.z, t.byteAt 0x6100#16)) = some (false, false, 0x78#8) := by decide

/-- V-STX-1 (R235). -/
theorem test_stxZp :
    (ran { start with x := 0x11#8 } [] [0x86#8, 0x10#8]).map
      (fun t => (t.p.n, t.p.z, t.byteAt 0x0010#16)) = some (false, false, 0x11#8) := by decide

/-- V-STX-2 (R235). -/
theorem test_stxZpy :
    (ran { start with x := 0x22#8, y := 0xFF#8 } [] [0x96#8, 0x10#8]).map
      (fun t => (t.p.n, t.p.z, t.byteAt 0x000F#16)) = some (false, false, 0x22#8) := by decide

/-- V-STX-3 (R235). -/
theorem test_stxAbs :
    (ran { start with x := 0x33#8 } [] [0x8E#8, 0x00#8, 0x40#8]).map
      (fun t => (t.p.n, t.p.z, t.byteAt 0x4000#16)) = some (false, false, 0x33#8) := by decide

/-- V-STY-1 (R236). -/
theorem test_styZp :
    (ran { start with y := 0x44#8 } [] [0x84#8, 0x10#8]).map
      (fun t => (t.p.n, t.p.z, t.byteAt 0x0010#16)) = some (false, false, 0x44#8) := by decide

/-- V-STY-2 (R236). -/
theorem test_styZpx :
    (ran { start with y := 0x55#8, x := 0x01#8 } [] [0x94#8, 0x10#8]).map
      (fun t => (t.p.n, t.p.z, t.byteAt 0x0011#16)) = some (false, false, 0x55#8) := by decide

/-- V-STY-3 (R236). -/
theorem test_styAbs :
    (ran { start with y := 0x66#8 } [] [0x8C#8, 0x00#8, 0x40#8]).map
      (fun t => (t.p.n, t.p.z, t.byteAt 0x4000#16)) = some (false, false, 0x66#8) := by decide

/-- V-TAX-1 (R237). -/
theorem test_tax :
    (ran { start with a := 0x80#8, x := 0x01#8 } [] [0xAA#8]).map
      (fun t => (t.x, t.p.n, t.p.z)) = some (0x80#8, true, false) := by decide

/-- V-TAY-1 (R238). -/
theorem test_tay :
    (ran { start with a := 0x00#8, y := 0x01#8 } [] [0xA8#8]).map
      (fun t => (t.y, t.p.n, t.p.z)) = some (0x00#8, false, true) := by decide

/-- V-TXA-1 (R240). -/
theorem test_txa :
    (ran { start with x := 0x7F#8, a := 0x00#8, p := { clear with z := true } } [] [0x8A#8]).map
      (fun t => (t.a, t.p.n, t.p.z)) = some (0x7F#8, false, false) := by decide

/-- V-TYA-1 (R242). -/
theorem test_tya :
    (ran { start with y := 0xFF#8 } [] [0x98#8]).map
      (fun t => (t.a, t.p.n, t.p.z)) = some (0xFF#8, true, false) := by decide

/-- V-TSX-1 (R239). -/
theorem test_tsx :
    (ran { start with sp := 0x00#8, x := 0x55#8 } [] [0xBA#8]).map
      (fun t => (t.x, t.p.n, t.p.z)) = some (0x00#8, false, true) := by decide

/-- V-TXS-1 (R241). -/
theorem test_txs :
    (ran { start with x := 0x00#8, sp := 0xFF#8, p := { clear with n := true } } [] [0x9A#8]).map
      (fun t => (t.sp, t.p.n, t.p.z)) = some (0x00#8, true, false) := by decide

/-- V-AND-1 (R261). -/
theorem test_andImm :
    (ran { start with a := 0xF0#8 } [] [0x29#8, 0x0F#8]).map
      (fun t => (t.a, t.p.n, t.p.z)) = some (0x00#8, false, true) := by decide

/-- V-AND-3 (R261). -/
theorem test_andZp :
    (ran { start with a := 0x3C#8 } [(0x0010, 0x66#8)] [0x25#8, 0x10#8]).map
      (fun t => (t.a, t.p.n, t.p.z)) = some (0x24#8, false, false) := by decide

/-- V-AND-4 (R261). -/
theorem test_andAbx :
    (ran { start with a := 0xFF#8, x := 0x01#8 } [(0x2100, 0x01#8)] [0x3D#8, 0xFF#8, 0x20#8]).map
      (fun t => (t.a, t.p.n, t.p.z)) = some (0x01#8, false, false) := by decide

/-- V-AND-5 (R261). -/
theorem test_andIzy :
    (ran { start with a := 0xAA#8, y := 0x00#8 } [(0x0010, 0x00#8), (0x0011, 0x30#8), (0x3000, 0xA0#8)] [0x31#8, 0x10#8]).map
      (fun t => (t.a, t.p.n, t.p.z)) = some (0xA0#8, true, false) := by decide

/-- V-EOR-2 (R262). -/
theorem test_eorImm :
    (ran { start with a := 0x7F#8 } [] [0x49#8, 0xFF#8]).map
      (fun t => (t.a, t.p.n, t.p.z)) = some (0x80#8, true, false) := by decide

/-- V-EOR-3 (R262). -/
theorem test_eorAbs :
    (ran { start with a := 0x55#8 } [(0x2000, 0x0F#8)] [0x4D#8, 0x00#8, 0x20#8]).map
      (fun t => (t.a, t.p.n, t.p.z)) = some (0x5A#8, false, false) := by decide

/-- V-EOR-4 (R262). -/
theorem test_eorIzx :
    (ran { start with a := 0x01#8, x := 0x10#8 } [(0x0020, 0x00#8), (0x0021, 0x30#8), (0x3000, 0x01#8)] [0x41#8, 0x10#8]).map
      (fun t => (t.a, t.p.n, t.p.z)) = some (0x00#8, false, true) := by decide

/-- V-ORA-2 (R263). -/
theorem test_oraImm :
    (ran { start with a := 0x01#8 } [] [0x09#8, 0x80#8]).map
      (fun t => (t.a, t.p.n, t.p.z)) = some (0x81#8, true, false) := by decide

/-- V-ORA-3 (R263). -/
theorem test_oraZpx :
    (ran { start with a := 0x0F#8, x := 0x01#8 } [(0x0011, 0x30#8)] [0x15#8, 0x10#8]).map
      (fun t => (t.a, t.p.n, t.p.z)) = some (0x3F#8, false, false) := by decide

/-- V-ORA-4 (R263). -/
theorem test_oraAby :
    (ran { start with a := 0x00#8, y := 0x01#8 } [(0x2001, 0x00#8)] [0x19#8, 0x00#8, 0x20#8]).map
      (fun t => (t.a, t.p.n, t.p.z)) = some (0x00#8, false, true) := by decide

/-- V-INC-1 (R267). -/
theorem test_incZp :
    (ran start [(0x0010, 0xFF#8)] [0xE6#8, 0x10#8]).map
      (fun t => (t.p.n, t.p.z, t.byteAt 0x0010#16)) = some (false, true, 0x00#8) := by decide

/-- V-INC-3 (R267). -/
theorem test_incZpx :
    (ran { start with x := 0x01#8 } [(0x0011, 0x00#8)] [0xF6#8, 0x10#8]).map
      (fun t => (t.p.n, t.p.z, t.byteAt 0x0011#16)) = some (false, false, 0x01#8) := by decide

/-- V-INC-4 (R267). -/
theorem test_incAbs :
    (ran start [(0x2000, 0xFE#8)] [0xEE#8, 0x00#8, 0x20#8]).map
      (fun t => (t.p.n, t.p.z, t.byteAt 0x2000#16)) = some (true, false, 0xFF#8) := by decide

/-- V-INC-5 (R267). -/
theorem test_incAbx :
    (ran { start with x := 0x01#8 } [(0x2100, 0x0F#8)] [0xFE#8, 0xFF#8, 0x20#8]).map
      (fun t => (t.p.n, t.p.z, t.byteAt 0x2100#16)) = some (false, false, 0x10#8) := by decide

/-- V-DEC-1 (R264). -/
theorem test_decZp :
    (ran start [(0x0010, 0x00#8)] [0xC6#8, 0x10#8]).map
      (fun t => (t.p.n, t.p.z, t.byteAt 0x0010#16)) = some (true, false, 0xFF#8) := by decide

/-- V-DEC-3 (R264). -/
theorem test_decZpx :
    (ran { start with x := 0x01#8 } [(0x0000, 0x80#8)] [0xD6#8, 0xFF#8]).map
      (fun t => (t.p.n, t.p.z, t.byteAt 0x0000#16)) = some (false, false, 0x7F#8) := by decide

/-- V-DEC-4 (R264). -/
theorem test_decAbs :
    (ran start [(0x2000, 0x81#8)] [0xCE#8, 0x00#8, 0x20#8]).map
      (fun t => (t.p.n, t.p.z, t.byteAt 0x2000#16)) = some (true, false, 0x80#8) := by decide

/-- V-DEC-5 (R264). -/
theorem test_decAbx :
    (ran { start with x := 0x01#8 } [(0x2001, 0x10#8)] [0xDE#8, 0x00#8, 0x20#8]).map
      (fun t => (t.p.n, t.p.z, t.byteAt 0x2001#16)) = some (false, false, 0x0F#8) := by decide

/-- V-INX-1 (R268). -/
theorem test_inx :
    (ran { start with x := 0xFF#8 } [] [0xE8#8]).map
      (fun t => (t.x, t.p.n, t.p.z)) = some (0x00#8, false, true) := by decide

/-- V-INY-1 (R269). -/
theorem test_iny :
    (ran { start with y := 0xFF#8 } [] [0xC8#8]).map
      (fun t => (t.y, t.p.n, t.p.z)) = some (0x00#8, false, true) := by decide

/-- V-DEX-1 (R265). -/
theorem test_dex :
    (ran { start with x := 0x00#8 } [] [0xCA#8]).map
      (fun t => (t.x, t.p.n, t.p.z)) = some (0xFF#8, true, false) := by decide

/-- V-DEY-1 (R266). -/
theorem test_dey :
    (ran { start with y := 0x00#8 } [] [0x88#8]).map
      (fun t => (t.y, t.p.n, t.p.z)) = some (0xFF#8, true, false) := by decide

/-- V-PHA-2 (R281). -/
theorem test_pha :
    (ran { start with a := 0x42#8, sp := 0x00#8 } [] [0x48#8]).map
      (fun t => (t.sp, t.pc, t.byteAt 0x0100#16, t.p.pack true)) = some (0xFF#8, 0x0201#16, 0x42#8, 0x30#8) := by decide

/-- V-PHP-1 (R282). -/
theorem test_php :
    (ran { start with p := { clear with i := true, z := true, c := true } } [] [0x08#8]).map
      (fun t => (t.sp, t.pc, t.byteAt 0x01FF#16, t.p.pack true)) = some (0xFE#8, 0x0201#16, 0x37#8, 0x37#8) := by decide

/-- V-PLA-2 (R283). -/
theorem test_pla :
    (ran { start with sp := 0xFF#8, a := 0x55#8 } [(0x0100, 0x00#8)] [0x68#8]).map
      (fun t => (t.a, t.sp, t.pc, t.p.pack true)) = some (0x00#8, 0x00#8, 0x0201#16, 0x32#8) := by decide

/-- V-PLP-1 (R284). -/
theorem test_plp :
    (ran { start with sp := 0xFE#8 } [(0x01FF, 0xC3#8)] [0x28#8]).map
      (fun t => (t.sp, t.pc, t.p.pack true)) = some (0xFF#8, 0x0201#16, 0xF3#8) := by decide

/-- V-CLC-1 (R285). -/
theorem test_clc :
    (ran { start with p := { clear with c := true, n := true } } [] [0x18#8]).map
      (fun t => (t.pc, t.p.pack true)) = some (0x0201#16, 0xB0#8) := by decide

/-- V-SEC-1 (R289). -/
theorem test_sec :
    (ran start [] [0x38#8]).map
      (fun t => (t.pc, t.p.pack true)) = some (0x0201#16, 0x31#8) := by decide

/-- V-CLD-1 (R286). -/
theorem test_cld :
    (ran { start with p := { clear with d := true } } [] [0xD8#8]).map
      (fun t => (t.pc, t.p.pack true)) = some (0x0201#16, 0x30#8) := by decide

/-- V-SED-1 (R290). -/
theorem test_sed :
    (ran start [] [0xF8#8]).map
      (fun t => (t.pc, t.p.pack true)) = some (0x0201#16, 0x38#8) := by decide

/-- V-CLI-1 (R287). -/
theorem test_cli :
    (ran { start with p := { clear with i := true } } [] [0x58#8]).map
      (fun t => (t.pc, t.p.pack true)) = some (0x0201#16, 0x30#8) := by decide

/-- V-SEI-1 (R291). -/
theorem test_sei :
    (ran start [] [0x78#8]).map
      (fun t => (t.pc, t.p.pack true)) = some (0x0201#16, 0x34#8) := by decide

/-- V-CLV-1 (R288). -/
theorem test_clv :
    (ran { start with p := { clear with v := true, c := true } } [] [0xB8#8]).map
      (fun t => (t.pc, t.p.pack true)) = some (0x0201#16, 0x31#8) := by decide

/-- V-NOP-2 (R292). -/
theorem test_nop :
    (ran { start with pc := 0xFFFF#16 } [] [0xEA#8]).map
      (fun t => (t.pc, t.p.pack true)) = some (0x0000#16, 0x30#8) := by decide

/-- V-BRK-2 (R293). -/
theorem test_brk :
    (ran { start with sp := 0x01#8, pc := 0x0600#16, p := { clear with d := true, i := true } } [(0xFFFE, 0x34#8), (0xFFFF, 0x12#8)] [0x00#8]).map
      (fun t => (t.sp, t.pc, t.byteAt 0x0101#16, t.byteAt 0x0100#16, t.byteAt 0x01FF#16, t.p.pack true)) = some (0xFE#8, 0x1234#16, 0x06#8, 0x02#8, 0x3C#8, 0x3C#8) := by decide

/-- V-BR-1 (R191). -/
theorem test_bcc_one :
    (ran start [] [0x90#8, 0x10#8]).map
      (fun t => (t.pc, t.p.n, t.p.v, t.p.z, t.p.c)) = some (0x0212#16, false, false, false, false) := by decide

/-- V-BR-2 (R191). -/
theorem test_bcc_two :
    (ran { start with p := { clear with c := true } } [] [0x90#8, 0x10#8]).map
      (fun t => (t.pc, t.p.n, t.p.v, t.p.z, t.p.c)) = some (0x0202#16, false, false, false, true) := by decide

/-- V-BR-3 (R192). -/
theorem test_bcs_one :
    (ran { start with p := { clear with c := true } } [] [0xB0#8, 0x10#8]).map
      (fun t => (t.pc, t.p.n, t.p.v, t.p.z, t.p.c)) = some (0x0212#16, false, false, false, true) := by decide

/-- V-BR-4 (R192). -/
theorem test_bcs_two :
    (ran start [] [0xB0#8, 0x10#8]).map
      (fun t => (t.pc, t.p.n, t.p.v, t.p.z, t.p.c)) = some (0x0202#16, false, false, false, false) := by decide

/-- V-BR-5 (R193). -/
theorem test_beq_one :
    (ran { start with p := { clear with z := true } } [] [0xF0#8, 0xFE#8]).map
      (fun t => (t.pc, t.p.n, t.p.v, t.p.z, t.p.c)) = some (0x0200#16, false, false, true, false) := by decide

/-- V-BR-6 (R193). -/
theorem test_beq_two :
    (ran start [] [0xF0#8, 0xFE#8]).map
      (fun t => (t.pc, t.p.n, t.p.v, t.p.z, t.p.c)) = some (0x0202#16, false, false, false, false) := by decide

/-- V-BR-24 (R195). -/
theorem test_bne_one :
    (ran { start with pc := 0x0105#16 } [] [0xD0#8, 0xAB#8]).map
      (fun t => (t.pc, t.p.n, t.p.v, t.p.z, t.p.c)) = some (0x00B2#16, false, false, false, false) := by decide

/-- V-BR-20 (R195). -/
theorem test_bne_two :
    (ran { start with pc := 0x0001#16 } [] [0xD0#8, 0xFB#8]).map
      (fun t => (t.pc, t.p.n, t.p.v, t.p.z, t.p.c)) = some (0xFFFE#16, false, false, false, false) := by decide

/-- V-BR-9 (R194). -/
theorem test_bmi_one :
    (ran { start with p := { clear with n := true } } [] [0x30#8, 0x00#8]).map
      (fun t => (t.pc, t.p.n, t.p.v, t.p.z, t.p.c)) = some (0x0202#16, true, false, false, false) := by decide

/-- V-BR-10 (R194). -/
theorem test_bmi_two :
    (ran start [] [0x30#8, 0x05#8]).map
      (fun t => (t.pc, t.p.n, t.p.v, t.p.z, t.p.c)) = some (0x0202#16, false, false, false, false) := by decide

/-- V-BR-11 (R196). -/
theorem test_bpl_one :
    (ran start [] [0x10#8, 0xFD#8]).map
      (fun t => (t.pc, t.p.n, t.p.v, t.p.z, t.p.c)) = some (0x01FF#16, false, false, false, false) := by decide

/-- V-BR-12 (R196). -/
theorem test_bpl_two :
    (ran { start with p := { clear with n := true } } [] [0x10#8, 0x05#8]).map
      (fun t => (t.pc, t.p.n, t.p.v, t.p.z, t.p.c)) = some (0x0202#16, true, false, false, false) := by decide

/-- V-BR-13 (R197). -/
theorem test_bvc_one :
    (ran { start with pc := 0x02F0#16 } [] [0x50#8, 0x20#8]).map
      (fun t => (t.pc, t.p.n, t.p.v, t.p.z, t.p.c)) = some (0x0312#16, false, false, false, false) := by decide

/-- V-BR-14 (R197). -/
theorem test_bvc_two :
    (ran { start with pc := 0x02F0#16, p := { clear with v := true } } [] [0x50#8, 0x20#8]).map
      (fun t => (t.pc, t.p.n, t.p.v, t.p.z, t.p.c)) = some (0x02F2#16, false, true, false, false) := by decide

/-- V-BR-15 (R198). -/
theorem test_bvs_one :
    (ran { start with pc := 0x0300#16, p := { clear with v := true } } [] [0x70#8, 0xFC#8]).map
      (fun t => (t.pc, t.p.n, t.p.v, t.p.z, t.p.c)) = some (0x02FE#16, false, true, false, false) := by decide

/-- V-BR-16 (R198). -/
theorem test_bvs_two :
    (ran { start with pc := 0x0300#16 } [] [0x70#8, 0xFC#8]).map
      (fun t => (t.pc, t.p.n, t.p.v, t.p.z, t.p.c)) = some (0x0302#16, false, false, false, false) := by decide

/-- V-ADC-DEC-2 (R142). -/
theorem test_adc_decimal_carries :
    (ran { start with a := 0x99#8, p := { clear with d := true } } [] [0x69#8, 0x01#8]).map
      (fun t => (t.a, t.p.c)) = some (0x00#8, true) := by decide

/-- V-ADC-DEC-1 (R142). -/
theorem test_adc_decimal_source_example :
    (ran { start with a := 0x79#8, p := { clear with d := true } } [] [0x69#8, 0x12#8]).map
      (fun t => (t.a, t.p.c)) = some (0x91#8, false) := by decide

/-- V-ADC-DEC-9 (R142). -/
theorem test_adc_decimal_not_bcd :
    (ran { start with
      a := 0x0F#8, p := { clear with d := true }, params := { Config.defaults with decimalInvalidBcd := .nmos } } []
      [0x69#8, 0x01#8]).map
      (fun t => (t.a, t.p.c)) = some (0x16#8, false) := by decide

/-- V-SBC-DEC-3 (R144). -/
theorem test_sbc_decimal_borrows :
    (ran { start with a := 0x12#8, p := { clear with c := true, d := true } } [] [0xE9#8, 0x21#8]).map
      (fun t => (t.a, t.p.c)) = some (0x91#8, false) := by decide

/-- V-ADC-DEC-1, with the flags of the `nmos` algorithm (R142). -/
theorem test_adc_decimal_nmos_flags :
    (ran { start with
      a := 0x79#8, p := { clear with d := true }, params := { Config.defaults with decimalFlags := .nmos } } []
      [0x69#8, 0x12#8]).map
      (fun t => (t.a, t.p.n, t.p.v, t.p.z, t.p.c)) = some (0x91#8, true, true, false, false) := by decide

/-- V-JMP-4 with the page wrap off (R211). -/
theorem test_jmpInd_without_page_wrap :
    (ran { start with params := { Config.defaults with jmpIndirectPageWrap := false } }
      [(0x1200, 0x40#8), (0x12FF, 0x00#8), (0x1300, 0x50#8)] [0x6C#8, 0xFF#8, 0x12#8]).map
      (fun t => t.pc) = some 0x5000#16 := by decide

/-- The overlap of R212: the pushed high byte of the return address replaces JSR's third byte before it is read. -/
theorem test_jsr_reads_its_third_byte_last :
    (ran { start with pc := 0x01FD#16 } [] [0x20#8, 0x34#8, 0x12#8]).map (fun t => t.pc) = some 0x0134#16 := by decide

/-- A store to ROM leaves memory alone (R58). -/
theorem test_store_to_rom :
    (ran { start with
      a := 0x80#8, params := { Config.defaults with memMap := [{ base := 0x4000#16, size := 0x100, kind := .rom }] } }
      [(0x4000, 0x55#8)] [0x8D#8, 0x00#8, 0x40#8]).map
      (fun t => t.byteAt 0x4000#16) = some 0x55#8 := by decide

/-- An unmapped address stops the platform that is asked to stop there (R59). -/
theorem test_stuck_on_unmapped :
    fault? (step (placed { start with params := { Config.defaults with
      unmappedAccess := .stuck, memMap := [{ base := 0x4000#16, size := 0x100, kind := .unmapped }] } }
      [] [0xAD#8, 0x00#8, 0x40#8])) = some (.stuck 0x4000#16) := by decide

/-! ## Histories with the discarded accesses performed (R124, R125) -/

/-- The accesses of one step with the discarded ones performed. -/
def history (s : State) (cells : List Host.Cell) (bytes : List Byte) : Option (List Touch) :=
  (ran { s with params := { Config.defaults with dummyAccesses := true } } cells bytes).map State.touches

/-- S5, E.1. -/
theorem test_history_implied : history start [] [0x0A#8] = some [.r 0x0200#16, .r 0x0201#16] := by decide

/-- S6, E.6, the page crossed. -/
theorem test_history_abx :
    history { start with x := 0x10#8 } [] [0x7D#8, 0xF0#8, 0x12#8] =
      some [.r 0x0200#16, .r 0x0201#16, .r 0x0202#16, .r 0x1200#16, .r 0x1300#16] := by decide

/-- S6, E.7. -/
theorem test_history_zpx :
    history { start with x := 0x20#8 } [] [0x75#8, 0xF0#8] =
      some [.r 0x0200#16, .r 0x0201#16, .r 0x00F0#16, .r 0x0010#16] := by decide

/-- S6, E.8. -/
theorem test_history_izx :
    history { start with x := 0x01#8 } [(0x0000, 0x30#8)] [0x61#8, 0xFE#8] =
      some [.r 0x0200#16, .r 0x0201#16, .r 0x00FE#16, .r 0x00FF#16, .r 0x0000#16, .r 0x3000#16] := by decide

/-- S6, E.9, the page crossed. -/
theorem test_history_izy :
    history { start with y := 0x01#8 } [(0x0040, 0xFF#8), (0x0041, 0x20#8)] [0x71#8, 0x40#8] =
      some [.r 0x0200#16, .r 0x0201#16, .r 0x0040#16, .r 0x0041#16, .r 0x2000#16, .r 0x2100#16] := by decide

/-- S4, E.5. -/
theorem test_history_branch :
    history { start with pc := 0x0100#16 } [] [0xD0#8, 0x50#8] = some [.r 0x0100#16, .r 0x0101#16, .r 0x0102#16] := by
  decide

/-- R125, RMW abx. -/
theorem test_history_modify :
    history { start with x := 0x01#8 } [] [0x1E#8, 0xFF#8, 0x20#8] =
      some [.r 0x0200#16, .r 0x0201#16, .r 0x0202#16, .r 0x2000#16, .r 0x2100#16, .w 0x2100#16, .w 0x2100#16] := by decide

/-- R125, JSR. -/
theorem test_history_jsr :
    history start [] [0x20#8, 0x34#8, 0x12#8] =
      some [.r 0x0200#16, .r 0x0201#16, .r 0x01FF#16, .w 0x01FF#16, .w 0x01FE#16, .r 0x0202#16] := by decide

/-! ## Interrupts and reset -/

/-- The vectors of the V-INT rows. -/
def vectors : List Host.Cell :=
  [(0xFFFA, 0x00#8), (0xFFFB, 0x08#8), (0xFFFC, 0x00#8), (0xFFFD, 0xC0#8), (0xFFFE, 0x00#8), (0xFFFF, 0x07#8)]

/-- V-IRQ-1. -/
theorem test_irq_is_taken :
    (ran { start with pc := 0x0605#16, p := { clear with n := true, c := true }, irqLine := true } vectors []).map
      (fun t => (t.pc, t.sp, t.p.i, t.byteAt 0x01FF#16, t.byteAt 0x01FE#16, t.byteAt 0x01FD#16)) =
      some (0x0700#16, 0xFC#8, true, 0x06#8, 0x05#8, 0xA1#8) := by decide

/-- V-IRQ-2, with a NOP at 0605. -/
theorem test_irq_is_masked :
    (ran { start with pc := 0x0605#16, p := { clear with i := true }, irqLine := true } vectors [0xEA#8]).map
      (fun t => (t.pc, t.sp)) = some (0x0606#16, 0xFF#8) := by decide

/-- R316: an enabled IRQ may wait. -/
theorem test_irq_may_wait :
    (ran { start with pc := 0x0605#16, irqLine := true, schedule := [{ events := [], takeIrq := false }] } vectors [0xEA#8]).map
      (fun t => (t.pc, t.sp)) = some (0x0606#16, 0xFF#8) := by decide

/-- V-NMI-2, V-NMI-3. -/
theorem test_nmi_comes_first :
    (ran { start with pc := 0x0605#16, nmiPending := true, irqLine := true } vectors [0x00#8]).map
      (fun t => (t.pc, t.sp, t.nmiPending, t.irqLine, t.byteAt 0x01FE#16, t.byteAt 0x01FD#16)) =
      some (0x0800#16, 0xFC#8, false, true, 0x05#8, 0x20#8) := by decide

/-- R314: the edge, seen at the boundary, sets the latch, and NMI is taken there. -/
theorem test_nmi_edge_is_taken :
    (ran { start with schedule := [{ events := [.nmi true], takeIrq := false }] } vectors [0xEA#8]).map
      (fun t => (t.pc, t.nmiPending, t.nmiLine)) = some (0x0800#16, false, true) := by decide

/-- V-RST-1, on a warm reset. -/
theorem test_reset_sequence :
    (ran { start with
      p := { clear with d := true }, nmiPending := true, resetLine := true
      schedule := [{ events := [.reset false], takeIrq := true }] } vectors [0xEA#8]).map
      (fun t => (t.pc, t.sp, t.p.i, t.p.d, t.nmiPending, t.mem == (placed start vectors [0xEA#8]).mem)) =
      some (0xC000#16, 0xFC#8, true, true, false, true) := by decide

/-- R315: while RESET is asserted the processor does nothing. -/
theorem test_reset_is_held :
    (ran { start with schedule := [{ events := [.reset true], takeIrq := true }] } vectors [0xEA#8]).map
      (fun t => (t.pc, t.resetLine)) = some (0x0200#16, true) := by decide

/-! ## A program's first step from reset (log 5) -/

theorem test_withFetchWord_runs :
    (next? (step (State.reset.withFetchWord 16 0b00010010_01101001))).map (fun t => (t.a, t.pc)) = some (0x12#8, 0x0002#16) := by
  decide

/-! ## Witnesses: for each statement with premises, a state and operands that meet them -/

theorem witness_StatusImagePacksAndUnpacks : (0xFF#8 : Byte) &&& 0xCF#8 = 0xCF#8 &&& 0xCF#8 := by decide

/-- NOP is in none of the lists, `ASL zp` meets the second premise, `ASL A` the memory premise. -/
theorem witness_FlagsChangeOnlyByTheirWriters :
    (∃ t, exec .nop start = .next t) ∧ Instr.nop.mnemonic = .nop := ⟨next_of_isSome (by decide), rfl⟩

theorem witness_StateChangesOnlyByItsWriters :
    (∃ t, exec .nop start = .next t) ∧ Instr.nop.mnemonic = .nop ∧ Instr.nop.mode ≠ .rel ∧
    (∃ t, exec (.aslZp 0x10#8) start = .next t) ∧ (Instr.aslZp 0x10#8).mnemonic = .asl ∧ (Instr.aslZp 0x10#8).mode ≠ .acc ∧
    (∃ t, exec .aslAcc start = .next t) ∧ Instr.aslAcc.mode = .acc :=
  ⟨next_of_isSome (by decide), rfl, by decide, next_of_isSome (by decide), rfl, by decide, next_of_isSome (by decide), rfl⟩

/-- A PHA whose byte lands in RAM, from a state that meets the invariant. -/
def pushing : State := placed { start with a := 0x42#8 } vectors [0x48#8]

theorem witness_StepKeepsInvariant : pushing.inv = true ∧ ∃ t, step pushing = .next t :=
  ⟨by decide, next_of_isSome (by decide)⟩

theorem witness_StepKeepsParameters : ∃ t, step pushing = .next t := next_of_isSome (by decide)

/-- A store to ROM at 4000, beside a device at 5000 and nothing at 6000 to 60FF. -/
def mapped : State :=
  placed { start with
    a := 0x80#8
    params := { Config.defaults with memMap := [
      { base := 0x4000#16, size := 0x100, kind := .rom },
      { base := 0x5000#16, size := 1, kind := .device 0 },
      { base := 0x6000#16, size := 0x100, kind := .unmapped }] } }
    [(0x4000, 0x55#8)] [0x8D#8, 0x00#8, 0x40#8]

theorem witness_OnlyRamBytesChange : (∃ t, step mapped = .next t) ∧ mapped.kindAt 0x4000#16 ≠ .ram :=
  ⟨next_of_isSome (by decide), by decide⟩

/-- Each kind of address, at both ends of a region. -/
theorem witness_AccessesFollowTheMap :
    mapped.kindAt 0x3FFF#16 = .ram ∧ mapped.kindAt 0x4000#16 = .rom ∧ mapped.kindAt 0x40FF#16 = .rom ∧
    mapped.kindAt 0x4100#16 = .ram ∧ mapped.kindAt 0x5000#16 = .device 0 ∧ mapped.kindAt 0x6000#16 = .unmapped ∧
    mapped.kindAt 0x60FF#16 = .unmapped := by decide

/-- S at both ends of page one. -/
theorem witness_PushAndPull :
    start.kindAt (hiLo 0x01#8 0x00#8) = .ram ∧ start.kindAt (hiLo 0x01#8 start.sp) = .ram ∧
    start.answers (hiLo 0x01#8 (start.sp + 1)) = true := by decide

/-- A load from an unmapped address, and one from RAM, where unmapped accesses are rejected. -/
def rejecting (hi : Byte) : State :=
  placed { start with params := { Config.defaults with
    unmappedAccess := .stuck, memMap := [{ base := 0x6000#16, size := 0x100, kind := .unmapped }] } }
    [] [0xAD#8, 0x00#8, hi]

theorem witness_StuckOnlyOnUnmappedAccess :
    start.params.unmappedAccess = .anyValue ∧ step (rejecting 0x60#8) = .fault (.stuck 0x6000#16) ∧
    (rejecting 0x61#8).params.unmappedAccess = .stuck ∧ (∃ t, step (rejecting 0x61#8) = .next t) ∧
    (next? (step (rejecting 0x61#8))).map (fun t => decide (.r 0x6100#16 ∈ t.touches)) = some true ∧
    (next? (step pushing)).map (fun t => decide (.w 0x01FF#16 ∈ t.touches)) = some true :=
  ⟨rfl, rfl, rfl, next_of_isSome (by decide), by decide, by decide⟩

theorem witness_EncodeOfDecode : decode [0x6D#8, 0x34#8, 0x12#8, 0xEA#8] = .ok (.adcAbs 0x1234#16, [0xEA#8]) := rfl

/-- A row for each clause, at each of its lengths. -/
theorem witness_LengthFromOpcodeBits :
    [0x69#8, 0x65#8, 0x6D#8, 0x79#8, 0x0A#8, 0x9A#8, 0x06#8, 0x0E#8, 0x1E#8, 0x20#8, 0x2C#8, 0xBC#8, 0x18#8, 0x00#8, 0x40#8,
      0x60#8, 0x24#8, 0x90#8].all (fun op => (rowOf op).isSome) = true := by decide

/-- V-REF-1 to V-REF-3: a byte with no row, a row of tier G, a row of ROR. -/
theorem witness_UndefinedOpcodesRefused :
    (let s := placed start [] [0x02#8]
     s.fetchesNext = true ∧ s.params.unmappedAccess = .anyValue ∧ rowOf (s.sample.peek s.pc) = none) ∧
    (let s := placed { start with params := { Config.defaults with admitTierG := false } } [] [0xA9#8]
     s.fetchesNext = true ∧ s.params.unmappedAccess = .anyValue ∧ s.params.admitTierG = false ∧
       (rowOf (s.sample.peek s.pc)).map (fun row => row.mnemonic.tier) = some .g) ∧
    (let s := placed { start with params := { Config.defaults with hasRor := false } } [] [0x6A#8]
     s.fetchesNext = true ∧ s.params.unmappedAccess = .anyValue ∧ s.params.hasRor = false ∧
       (rowOf (s.sample.peek s.pc)).map (fun row => row.mnemonic) = some .ror) := by
  decide

/-- A three-byte instruction that runs over the top of memory. -/
def atTheTop : State :=
  placed { start with pc := 0xFFFE#16, params := { Config.defaults with dummyAccesses := true } } [] [0x6D#8, 0x34#8, 0x12#8]

theorem witness_StepRunsDecodedInstruction :
    atTheTop.fetchesNext = true ∧ decode [0x6D#8, 0x34#8, 0x12#8] = .ok (.adcAbs 0x1234#16, []) ∧
    wellFormed atTheTop.params (.adcAbs 0x1234#16) = true ∧
    (∀ k < 3, atTheTop.answers (atTheTop.pc + BitVec.ofNat 16 k) = true ∧
      ([0x6D#8, 0x34#8, 0x12#8] : List Byte)[k]? = some (atTheTop.byteAt (atTheTop.pc + BitVec.ofNat 16 k))) :=
  ⟨by decide, rfl, by decide, by decide⟩

/-- Besides the state of `witness_StepRunsDecodedInstruction`, an NMI entry. -/
theorem witness_HistoryLengthIsCycleCount :
    atTheTop.performsDummies = true ∧ (∃ t, step atTheTop = .next t) ∧
    { atTheTop with nmiPending := true }.performsDummies = true ∧ { atTheTop with nmiPending := true }.fetchesNext = false ∧
    { atTheTop with nmiPending := true }.sample.resetLine = false ∧ ∃ t, step { atTheTop with nmiPending := true } = .next t :=
  ⟨by decide, next_of_isSome (by decide), by decide, by decide, by decide, next_of_isSome (by decide)⟩

/-- Memory answers at both ends of page zero, at a pointer and at its target. -/
theorem witness_EffectiveAddresses :
    start.answers (hiLo 0x00#8 0x00#8) = true ∧ start.answers (hiLo 0x00#8 0xFF#8) = true ∧
    start.answers (start.target (.izy 0xFF#8)) = true ∧ start.answers (start.target (.abx 0xFFFF#16)) = true := by decide

theorem witness_ReadAccessLists :
    (∃ t, exec (.adcAbx 0x12F0#16) start = .next t) ∧
    (⟨.adcAbx 0x12F0#16, .mem (.abx 0x12F0#16), 0x7D#8, 4⟩ : Form Operand) ∈ adcForms 0x00#8 0x12F0#16 :=
  ⟨next_of_isSome (by decide), by decide⟩

/-- The part with the page wrap, and the part without it. -/
theorem witness_StackAccessLists :
    start.params.jmpIndirectPageWrap = true ∧
    { start with params := { Config.defaults with jmpIndirectPageWrap := false } }.params.jmpIndirectPageWrap = false :=
  ⟨rfl, rfl⟩

theorem witness_AdcBinary : start.p.d = false := rfl

/-- A state in decimal mode on a part with these settings. -/
def decimalState (a : Byte) (flags : DecimalFlags) (invalid : InvalidBcd) : State :=
  { start with
    a := a
    p := { clear with d := true }
    params := { Config.defaults with decimalFlags := flags, decimalInvalidBcd := invalid } }

/-- Valid BCD at both ends of the range, then a first and a second operand that is not BCD. -/
theorem witness_AdcDecimal :
    (∀ flags ∈ [DecimalFlags.draw, .nmos],
      let s := decimalState 0x99#8 flags .refuse
      s.p.d = true ∧ s.params.decimalFlags = flags ∧ validBcd s.a = true ∧ validBcd (s.operand (.imm 0x00#8)) = true ∧
        validBcd (s.operand (.imm 0x99#8)) = true) ∧
    (∀ flags ∈ [DecimalFlags.draw, .nmos],
      let s := decimalState 0x9A#8 flags .nmos
      s.p.d = true ∧ s.params.decimalFlags = flags ∧ s.params.decimalInvalidBcd = .nmos ∧ validBcd s.a = false) ∧
    (let s := decimalState 0x99#8 .draw .refuse
     s.p.d = true ∧ s.params.decimalInvalidBcd = .refuse ∧ s.params.unmappedAccess = .anyValue ∧
       validBcd (s.operand (.imm 0xA0#8)) = false) := by decide

theorem witness_SbcBinary : { start with p := { clear with c := true } }.p.d = false := rfl

/-- The premises are those of ADC's, and so are the states. -/
theorem witness_SbcDecimal :
    (∀ flags ∈ [DecimalFlags.draw, .nmos],
      let s := decimalState 0x00#8 flags .refuse
      s.p.d = true ∧ s.params.decimalFlags = flags ∧ validBcd s.a = true ∧ validBcd (s.operand (.imm 0x99#8)) = true) ∧
    (∀ flags ∈ [DecimalFlags.draw, .nmos],
      let s := decimalState 0x0A#8 flags .nmos
      s.p.d = true ∧ s.params.decimalFlags = flags ∧ s.params.decimalInvalidBcd = .nmos ∧ validBcd s.a = false) ∧
    (let s := decimalState 0x00#8 .nmos .refuse
     s.p.d = true ∧ s.params.decimalInvalidBcd = .refuse ∧ s.params.unmappedAccess = .anyValue ∧
       validBcd (s.operand (.imm 0x0A#8)) = false) := by decide

/-- V-ADC-4 and V-SBC-4: the sum of -128 and -128, the difference of -128 and 1. -/
theorem witness_OverflowIsSignedOverflow :
    start.p.d = false ∧ (∃ t, exec (.adcImm 0x80#8) { start with a := 0x80#8 } = .next t) ∧
    ∃ t, exec (.sbcImm 0x01#8) { start with a := 0x80#8 } = .next t :=
  ⟨rfl, next_of_isSome (by decide), next_of_isSome (by decide)⟩

theorem witness_BcdHelpersAgree : validBcd 0x99#8 = true ∧ (0 : Nat) ≤ 99 ∧ 99 ≤ 99 := by decide

/-- One instruction that neither writes D nor pushes it, one that writes it, one that pushes it. -/
theorem witness_DecimalModeReachesAdcAndSbcOnly :
    ((Instr.cmpImm 0x12#8).mnemonic = .cmp ∧ ∃ t, exec (.cmpImm 0x12#8) start = .next t) ∧
    (Instr.plp.mnemonic = .plp ∧ ∃ t, exec .plp start = .next t) ∧
    (Instr.brk.mnemonic = .brk ∧ ∃ t, exec .brk start = .next t) :=
  ⟨⟨rfl, next_of_isSome (by decide)⟩, ⟨rfl, next_of_isSome (by decide)⟩, ⟨rfl, next_of_isSome (by decide)⟩⟩

/-- Nine rotates in a row, each one's end the next one's start. -/
theorem witness_RotatesUndoEachOther :
    (∃ t u, exec .rolAcc start = .next t ∧ exec .rorAcc t = .next u) ∧
    (∃ t u, exec .rorAcc start = .next t ∧ exec .rolAcc t = .next u) ∧
    ∃ run : Nat → State, ∀ k < 9, exec .rolAcc (run k) = .next (run (k + 1)) := by
  have total : ∀ s, ∃ t, exec .rolAcc s = .next t := fun s => ⟨_, rfl⟩
  exact ⟨⟨_, _, rfl, rfl⟩, ⟨_, _, rfl, rfl⟩,
    fun k => Nat.rec start (fun _ s => (total s).choose) k, fun k _ => (total _).choose_spec⟩

/-- S at the end of page one where the pushes wrap; the handler's state is the entry's own. -/
theorem witness_CallAndInterruptReturn :
    start.kindAt (stackAddr start.sp) = .ram ∧ start.kindAt (stackAddr (start.sp - 1)) = .ram ∧
    start.kindAt (stackAddr (start.sp - 2)) = .ram ∧
    { start with sp := 0x00#8 }.kindAt (stackAddr (0x00#8 - 2)) = .ram ∧
    (∃ t, exec (.jsr 0x3000#16) start = .next t) ∧ ∃ t, exec .brk start = .next t :=
  ⟨by decide, by decide, by decide, by decide, next_of_isSome (by decide), next_of_isSome (by decide)⟩

/-- V-NMI-2 and V-IRQ-1. -/
theorem witness_InterruptsAreTakenByPriority :
    (let s := { start with nmiPending := true, irqLine := true, p := { clear with i := true } }
     s.params.unmappedAccess = .anyValue ∧ s.sample.resetLine = false ∧ s.sample.resetPending = false ∧
       s.sample.nmiPending = true) ∧
    (let s := { start with irqLine := true }
     s.params.unmappedAccess = .anyValue ∧ s.sample.resetLine = false ∧ s.sample.resetPending = false ∧
       s.sample.nmiPending = false ∧ s.sample.irqLine = true ∧ s.sample.p.i = false ∧ s.boundary.takeIrq = true) := by decide

/-- V-IRQ-2, with a NOP at PC. -/
def masked : State := placed { start with p := { clear with i := true } } vectors [0xEA#8]

theorem witness_MaskedIrqHasNoPart :
    masked.p.i = true ∧ (∀ e ∈ masked.boundary.events, ∀ l, e ≠ .irq l) ∧ ∃ t, step masked = .next t :=
  ⟨rfl, by intro e h; simp [masked, placed, start, State.reset, State.boundary, quietBoundary] at h, next_of_isSome (by decide)⟩

theorem witness_NmiIsLatchedIrqIsALevel : start.nmiLine = false ∧ { start with nmiLine := true }.nmiLine = true := by decide

/-- RESET held, and RESET released. -/
theorem witness_ResetOverridesEverything :
    start.params.unmappedAccess = .anyValue ∧ { start with resetLine := true }.sample.resetLine = true ∧
    { start with resetPending := true }.sample.resetLine = false ∧ { start with resetPending := true }.sample.resetPending = true := by
  decide

end Sys2Proof.Tests
end

section
/-! The flags of P as numbers: the status byte packed and unpacked, and SetNZ (10_state.md). -/

namespace Sys2Proof.Machine

/-! ## The byte image of P -/

/-- Bits are put together from the left: each one appended doubles the number before it. -/
theorem toNat_append_ofBool {w : Nat} (x : BitVec w) (b : Bool) :
    (x ++ BitVec.ofBool b).toNat = 2 * x.toNat + bit b := by
  have hbit : bit b = b.toNat := by cases b <;> rfl
  rw [← BitVec.concat, BitVec.toNat_concat, hbit, Nat.mul_comm]

/-- PackP(b) as a number, bit by bit (R34). -/
theorem Flags.toNat_pack (p : Flags) (b : Bool) : (p.pack b).toNat =
    128 * bit p.n + 64 * bit p.v + 32 + 16 * bit b + 8 * bit p.d + 4 * bit p.i + 2 * bit p.z + bit p.c := by
  have hfirst : (BitVec.ofBool p.n).toNat = bit p.n := by cases p.n <;> rfl
  have hone : 1#1 = BitVec.ofBool true := rfl
  have hbit : bit true = 1 := rfl
  simp only [Flags.pack, hone, toNat_append_ofBool, hfirst, hbit]
  omega

/-- 0xCF is 0 in bits 5 and 4 alone, the two that UnpackP ignores (R35). -/
theorem Flags.unpack_and_mask (v : Byte) : Flags.unpack (v &&& 0xCF#8) = Flags.unpack v := by
  simp [Flags.unpack]

theorem Flags.unpack_eq_of_masked_eq {v w : Byte} (h : v &&& 0xCF#8 = w &&& 0xCF#8) :
    Flags.unpack v = Flags.unpack w := by
  rw [← Flags.unpack_and_mask v, h, Flags.unpack_and_mask]

/-- Settles O1, from the number a packed P is and the mask UnpackP does not see through. -/
theorem statusImagePacksAndUnpacks : Obligations.StatusImagePacksAndUnpacks :=
  ⟨Flags.toNat_pack, fun _ => rfl, fun _ _ => Flags.unpack_eq_of_masked_eq, Flags.unpack_pack⟩

/-! ## SetNZ -/

/-- Bit 7 of a byte is its sign: it says whether the byte is at least 128. -/
theorem getLsbD_seven_eq_decide (v : Byte) : v.getLsbD 7 = decide (128 ≤ v.toNat) :=
  v.msb_eq_getLsbD_last.symm.trans v.msb_eq_decide

theorem beq_zero_eq_decide (v : Byte) : (v == 0x00#8) = decide (v.toNat = 0) := by
  rw [beq_eq_decide, decide_eq_decide, BitVec.toNat_eq]
  rfl

/-- SetNZ by the number its byte is (R31). -/
theorem Flags.setNZ_eq (p : Flags) (v : Byte) :
    p.setNZ v = { p with n := decide (128 ≤ v.toNat), z := decide (v.toNat = 0) } := by
  rw [Flags.setNZ, getLsbD_seven_eq_decide, beq_zero_eq_decide]

/-- A byte is not both at least 128 and 0 (R31). -/
theorem Flags.setNZ_not_n_and_z (p : Flags) (v : Byte) : ¬((p.setNZ v).n = true ∧ (p.setNZ v).z = true) := by
  rw [Flags.setNZ_eq]
  simp only [decide_eq_true_eq]
  omega

/-- With A = 00, BIT sets Z whatever M is, while N is M's own sign (R148). -/
theorem Flags.bitTest_zero (p : Flags) (m : Byte) :
    (p.bitTest 0x00#8 m).n = m.getLsbD 7 ∧ (p.bitTest 0x00#8 m).z = true := by
  simp [Flags.bitTest]

/-- Settles O2; the pulled byte is the image of N = Z = 1 and the other flags 0. -/
theorem setNzWritesSignAndZero : Obligations.SetNzWritesSignAndZero :=
  ⟨fun p v => ⟨p.setNZ_eq v, p.setNZ_not_n_and_z v⟩, fun p => p.bitTest_zero 0x80#8, 0x82#8, rfl, rfl⟩

end Sys2Proof.Machine
end

section
/-! The opcode table and what a step does with a byte that is no opcode of the part (30_encoding.md). -/

namespace Sys2Proof

/-! ## Finding a row -/

/-- The table is searched from its head, as a list is. -/
theorem findRow_eq_find? (rows : List Row) (op : Byte) :
    findRow rows op = rows.find? (fun row => row.opcode = op) := by
  induction rows with
  | nil => rfl
  | cons row rest ih => by_cases h : row.opcode = op <;> simp [findRow, h, ih]

/-- The row of a byte stands in the table, under that byte. -/
theorem mem_opcodeTable_of_rowOf {op : Byte} {row : Row} (h : rowOf op = some row) :
    row ∈ opcodeTable ∧ row.opcode = op := by
  rw [rowOf, findRow_eq_find?] at h
  exact ⟨List.mem_of_find?_eq_some h, by simpa using List.find?_some h⟩

theorem isSome_findRow_iff {rows : List Row} {op : Byte} : (findRow rows op).isSome ↔ op ∈ rows.map Row.opcode := by
  simp [findRow_eq_find?]

/-! ## Counting the rows -/

/-- With distinct opcodes, the numbers below 256 whose bytes have a row are those opcodes, each once. -/
theorem defined_perm_opcodes {rows : List Row} (h : (rows.map Row.opcode).Nodup) :
    ((List.range 256).filter (fun op => (findRow rows (BitVec.ofNat 8 op)).isSome)).Perm
      ((rows.map Row.opcode).map BitVec.toNat) := by
  refine (List.perm_ext_iff_of_nodup (List.nodup_range.filter _)
    (h.map fun _ _ => BitVec.eq_of_toNat_eq)).2 fun n => ?_
  rw [List.mem_filter, List.mem_range, isSome_findRow_iff, List.mem_map (f := BitVec.toNat)]
  constructor
  · rintro ⟨hn, hmem⟩
    exact ⟨_, hmem, Nat.mod_eq_of_lt hn⟩
  · rintro ⟨op, hmem, rfl⟩
    exact ⟨op.isLt, by simpa using hmem⟩

/-- With distinct opcodes, the bytes with no row are as many as the rows leave of 256 (R91). -/
theorem length_undefined {rows : List Row} (h : (rows.map Row.opcode).Nodup) :
    ((List.range 256).filter (fun op => (findRow rows (BitVec.ofNat 8 op)).isNone)).length = 256 - rows.length := by
  have hsplit := List.length_eq_length_filter_add (l := List.range 256)
    (fun op => (findRow rows (BitVec.ofNat 8 op)).isSome)
  simp only [Option.not_isSome, List.length_range, (defined_perm_opcodes h).length_eq, List.length_map] at hsplit
  omega

set_option maxRecDepth 4000 in
/-- No opcode byte appears twice, so decoding is a function of the byte (R91). -/
theorem nodup_opcodes : (opcodeTable.map Row.opcode).Nodup :=
  .of_map BitVec.toNat (by decide)

set_option maxRecDepth 4000 in
/-- Settles O15: the bytes with no row are counted from the 151 rows and their distinct opcodes. -/
theorem opcodeTableCounts : Obligations.OpcodeTableCounts :=
  ⟨rfl, nodup_opcodes, by decide, by decide, length_undefined nodup_opcodes⟩

/-! ## The length of a row, from the bits of its opcode -/

section Lengths
set_option maxRecDepth 4000

theorem opcodeTable_cc_ne_three : ∀ row ∈ opcodeTable, row.opcode.extractLsb' 0 2 ≠ 0b11#2 := by decide

/-- The decoder takes the bytes that the row's mode has (R80, R82). -/
theorem opcodeTable_operandBytes :
    ∀ row ∈ opcodeTable, row.build.operandBytes + 1 = row.mode.format.length := by decide

theorem opcodeTable_length_of_cc_one : ∀ row ∈ opcodeTable,
    let bbb := row.opcode.extractLsb' 2 3
    row.opcode.extractLsb' 0 2 = 0b01#2 → row.mode.format.length =
      if bbb = 0b011#3 ∨ bbb = 0b110#3 ∨ bbb = 0b111#3 then 3 else 2 := by decide

theorem opcodeTable_length_of_cc_two : ∀ row ∈ opcodeTable,
    let bbb := row.opcode.extractLsb' 2 3
    row.opcode.extractLsb' 0 2 = 0b10#2 → row.mode.format.length =
      if bbb = 0b010#3 ∨ bbb = 0b110#3 then 1 else if bbb = 0b011#3 ∨ bbb = 0b111#3 then 3 else 2 := by decide

/-- Among the opcodes with cc = 00 stand the four exceptions: JSR, BRK, RTI, RTS. -/
theorem opcodeTable_length_of_cc_zero : ∀ row ∈ opcodeTable,
    let bbb := row.opcode.extractLsb' 2 3
    row.opcode.extractLsb' 0 2 = 0b00#2 → row.mode.format.length =
      if bbb = 0b011#3 ∨ bbb = 0b111#3 ∨ row.opcode = 0x20#8 then 3
      else if bbb = 0b010#3 ∨ bbb = 0b110#3 ∨ row.opcode = 0x00#8 ∨ row.opcode = 0x40#8 ∨
        row.opcode = 0x60#8 then 1 else 2 := by decide

end Lengths

/-- Settles O16: a byte's row stands in the table, and the law holds of every row there. -/
theorem lengthFromOpcodeBits : Obligations.LengthFromOpcodeBits := by
  intro op row h
  obtain ⟨hrow, rfl⟩ := mem_opcodeTable_of_rowOf h
  exact ⟨opcodeTable_cc_ne_three row hrow, rfl, opcodeTable_operandBytes row hrow,
    opcodeTable_length_of_cc_one row hrow, opcodeTable_length_of_cc_two row hrow,
    opcodeTable_length_of_cc_zero row hrow⟩

/-! ## What a row decodes to -/

/-- The instruction a row makes of its operand bytes, given as one word whose low byte is the first (R81). -/
def Build.instr : Build → Word → Instr
  | .implied i, _ => i
  | .oneByte f, oper => f (Machine.loByte oper)
  | .twoBytes f, oper => f oper

/-- What is decoded is made by the row of the first byte (R80). -/
theorem exists_instr_of_decode {op : Byte} {row : Row} {bytes rest : List Byte} {i : Instr}
    (hrow : rowOf op = some row) (h : decode (op :: bytes) = .ok (i, rest)) : ∃ oper, i = row.build.instr oper := by
  simp only [decode, hrow] at h
  split at h
  next j hbuild =>
    cases h
    exact ⟨0, by rw [hbuild, Build.instr]⟩
  next f oper _ hbuild =>
    cases h
    exact ⟨Machine.hiLo 0 oper, by rw [hbuild, Build.instr, Machine.loByte_hiLo]⟩
  next f oper operHi _ hbuild =>
    cases h
    exact ⟨Machine.hiLo operHi oper, by rw [hbuild, Build.instr]⟩
  all_goals cases h

/-- Whatever the operand, a row makes an instruction of its own mnemonic (R89, R90). -/
theorem opcodeTable_mnemonic :
    ∀ row ∈ opcodeTable, ∀ oper, (row.build.instr oper).mnemonic = row.mnemonic := by
  intro row hrow oper
  fin_cases hrow <;> rfl

/-- The first byte alone determines the mnemonic (R80). -/
theorem mnemonic_of_decode {op : Byte} {row : Row} {bytes rest : List Byte} {i : Instr}
    (hrow : rowOf op = some row) (h : decode (op :: bytes) = .ok (i, rest)) : i.mnemonic = row.mnemonic := by
  obtain ⟨oper, rfl⟩ := exists_instr_of_decode hrow h
  exact opcodeTable_mnemonic row (mem_opcodeTable_of_rowOf hrow).1 oper

/-! ## Which instructions the part has -/

/-- The part has no instruction of the mnemonic: tier G is not admitted, or it is a ROR where there is
none (R90, R94). -/
def Params.Lacks (p : Params) (m : Mnemonic) : Prop :=
  (m.tier = .g ∧ p.admitTierG = false) ∨ (m = .ror ∧ p.hasRor = false)

theorem tierAdmitted_eq_false_iff (p : Params) (i : Instr) :
    tierAdmitted p i = false ↔ i.mnemonic.tier = .g ∧ p.admitTierG = false := by
  cases h : i.mnemonic.tier <;> simp [tierAdmitted, h]

theorem rorAdmitted_eq_false_iff (p : Params) (i : Instr) :
    rorAdmitted p i = false ↔ i.mnemonic = .ror ∧ p.hasRor = false := by
  unfold rorAdmitted
  split
  next hror => simp [hror]
  next hother => simp [show i.mnemonic ≠ .ror from hother]

theorem wellFormed_eq_false_iff (p : Params) (i : Instr) : wellFormed p i = false ↔ p.Lacks i.mnemonic := by
  rw [wellFormed, Bool.and_eq_false_iff, tierAdmitted_eq_false_iff, rorAdmitted_eq_false_iff, Params.Lacks]

namespace Machine

/-! ## Refusing an opcode byte -/

/-- Where no RESET, NMI or IRQ is taken, the step fetches and executes (R10, R316). -/
theorem step_of_fetchesNext {s : State} (h : s.fetchesNext = true) : step s = rejectUnmapped s.sample.execute := by
  simp only [State.fetchesNext, Bool.and_eq_true, Bool.not_eq_true'] at h
  obtain ⟨⟨⟨hline, hreset⟩, hnmi⟩, hirq⟩ := h
  simp [step, State.atBoundary, hline, hreset, hnmi, hirq]

/-- A byte with no row, or with a row whose mnemonic the part lacks, is found to be no opcode (R92, R94). -/
theorem State.fetch_eq_undefined {s : State}
    (h : ∀ row, rowOf (s.peek s.pc) = some row → s.params.Lacks row.mnemonic) :
    s.fetch = .undefined (s.peek s.pc) (s.noteRead s.pc) := by
  simp only [State.fetch]
  cases hrow : rowOf (s.peek s.pc) with
  | none => rfl
  | some row =>
    dsimp only
    cases hdecode : decode (readBytes (row.build.operandBytes + 1) s.pc s).1 with
    | error _ => rfl
    | ok decoded =>
      have hlacks : wellFormed s.params decoded.1 = false := by
        rw [wellFormed_eq_false_iff, mnemonic_of_decode hrow hdecode]
        exact h row hrow
      simp [hlacks]

/-- A history that is one read is stuck only where the platform rejects that read (R59). -/
theorem State.stuckAt_noteRead {s : State} {addr : Word} (hbus : s.bus = [])
    (h : s.params.unmappedAccess = .stuck → s.kindAt addr ≠ .unmapped) : (s.noteRead addr).stuckAt = none := by
  cases hmode : s.params.unmappedAccess with
  | anyValue => exact State.stuckAt_anyValue hmode
  | stuck =>
    have hread : (s.noteRead addr).bus = [.read addr (s.peek addr)] := by simp [State.noteRead, hbus]
    simp [State.stuckAt, hmode, hread, State.firstUnmapped, h hmode]

/-- Settles O17: the fetch finds no opcode of the part, and its one read is not one that gets stuck. -/
theorem undefinedOpcodesRefused : Obligations.UndefinedOpcodesRefused := by
  intro s hfetches hmapped op hop
  have hlacks : ∀ row, rowOf op = some row → s.sample.params.Lacks row.mnemonic := by
    intro row hrow
    rw [s.sample_params]
    obtain hnone | ⟨row', hrow', hlacks⟩ := hop
    · exact absurd (hnone.symm.trans hrow) (by simp)
    · obtain rfl : row' = row := Option.some.inj (hrow'.symm.trans hrow)
      exact hlacks
  have hfetch : s.sample.fetch = .undefined op (s.sample.noteRead s.pc) := by
    rw [State.fetch_eq_undefined (by rwa [s.sample_pc]), s.sample_pc]
  have hfree : (s.sample.noteRead s.pc).stuckAt = none := by
    apply State.stuckAt_noteRead s.sample_bus
    rwa [s.sample_params, State.kindAt_of_params_eq s.sample_params]
  rw [step_of_fetchesNext hfetches, State.execute, hfetch]
  simp [State.refuse, hfree, rejectUnmapped]

end Machine
end Sys2Proof
end

section
/-! JMP: what a read delivers, and PC loaded with the operand or through a pointer (40_addressing_modes.md,
44_jump_subroutine.md). -/

namespace Sys2Proof.Machine

/-! ## What a read delivers -/

/-- The byte a read hands over is the one the address delivers (R57). -/
theorem State.delivers_peek (s : State) (addr : Word) : s.Delivers addr (s.peek addr) :=
  State.peek_of_backed

/-- What an address delivers depends on the platform's map and on memory alone. -/
theorem State.delivers_congr {s t : State} (hparams : t.params = s.params) (hmem : t.mem = s.mem)
    (addr : Word) (v : Byte) : t.Delivers addr v ↔ s.Delivers addr v := by
  simp only [State.Delivers, State.answers, State.kindAt_of_params_eq hparams, State.byteAt_of_mem_eq hmem]

/-! ## JMP -/

/-- Where the second byte of a JMP pointer stands: in the first one's page, or at the next address on a
part without the page wrap (R123). -/
def State.pointerSecond (s : State) (w : Word) : Word :=
  if s.params.jmpIndirectPageWrap = true then hiLo (hiByte w) (loByte w + 1) else w + 1

/-- JMP indirect reads the two bytes of its pointer, low byte first, and jumps (R211). -/
theorem exec_jmpInd (w : Word) (s : State) :
    exec (.jmpInd w) s = .next { ((s.advance 3).noteRead w).noteRead (s.pointerSecond w) with
      pc := hiLo (((s.advance 3).noteRead w).peek (s.pointerSecond w)) ((s.advance 3).peek w) } := rfl

theorem completes_jmpAbs (w : Word) (s : State) : Completes (.jmpAbs w) s { s with pc := w } :=
  ⟨{ s with pc := w }, rfl, rfl⟩

/-- The first read of the pointer changes neither the map nor memory, so that the second one delivers what
it would have delivered before. -/
theorem completes_jmpInd (w : Word) (s : State) :
    ∃ lo hi, s.Delivers w lo ∧ s.Delivers (s.pointerSecond w) hi ∧
      Completes (.jmpInd w) s { s with pc := hiLo hi lo } := by
  have hlo : s.Delivers w ((s.advance 3).peek w) :=
    (State.delivers_congr (by simp) (by simp) _ _).1 ((s.advance 3).delivers_peek w)
  have hhi : s.Delivers (s.pointerSecond w) (((s.advance 3).noteRead w).peek (s.pointerSecond w)) :=
    (State.delivers_congr (by simp) (by simp) _ _).1 (((s.advance 3).noteRead w).delivers_peek _)
  exact ⟨_, _, hlo, hhi, _, exec_jmpInd w s, rfl⟩

/-- Settles O39: the encodings and the cycles are the table's, and each form's completion is its own lemma. -/
theorem jumpsLoadPc : Obligations.JumpsLoadPc :=
  ⟨fun w => ⟨⟨rfl, fun _ => rfl⟩, completes_jmpAbs w⟩, fun w => ⟨⟨rfl, fun _ => rfl⟩, completes_jmpInd w⟩⟩

end Sys2Proof.Machine
end

section
/-! The read instructions: what every form of a mnemonic has in common, and how one completes
(40_addressing_modes.md, R110). -/

namespace Sys2Proof.Machine

/-! ## The forms of a mnemonic -/

/-- The form is the table's, and its meaning is to fetch the operand and run `body` on it (R110). -/
structure Form.Reads (f : Form Operand) (body : Byte → State → Result) : Prop where
  listed : f.readListed
  length_eq : f.instr.length = f.place.length
  exec_eq : ∀ s, exec f.instr s = readInstr f.place body s

theorem adcForms_reads {b : Byte} {w : Word} : ∀ f ∈ adcForms b w, f.Reads State.adc := by
  intro f hf
  fin_cases hf <;> exact ⟨⟨rfl, fun _ => rfl⟩, rfl, fun _ => rfl⟩

theorem sbcForms_reads {b : Byte} {w : Word} : ∀ f ∈ sbcForms b w, f.Reads State.sbc := by
  intro f hf
  fin_cases hf <;> exact ⟨⟨rfl, fun _ => rfl⟩, rfl, fun _ => rfl⟩

theorem cmpForms_reads {b : Byte} {w : Word} : ∀ f ∈ cmpForms b w, f.Reads State.cmp := by
  intro f hf
  fin_cases hf <;> exact ⟨⟨rfl, fun _ => rfl⟩, rfl, fun _ => rfl⟩

theorem cpxForms_reads {b : Byte} {w : Word} : ∀ f ∈ cpxForms b w, f.Reads State.cpx := by
  intro f hf
  fin_cases hf <;> exact ⟨⟨rfl, fun _ => rfl⟩, rfl, fun _ => rfl⟩

theorem cpyForms_reads {b : Byte} {w : Word} : ∀ f ∈ cpyForms b w, f.Reads State.cpy := by
  intro f hf
  fin_cases hf <;> exact ⟨⟨rfl, fun _ => rfl⟩, rfl, fun _ => rfl⟩

theorem bitForms_reads {b : Byte} {w : Word} : ∀ f ∈ bitForms b w, f.Reads State.bit := by
  intro f hf
  fin_cases hf <;> exact ⟨⟨rfl, fun _ => rfl⟩, rfl, fun _ => rfl⟩

/-! ## How a read instruction completes -/

/-- The state in which the body of a read instruction runs: PC moved on, the operand's accesses made. -/
def State.atBody (s : State) (f : Form Operand) : State := { s with
  pc := s.pcn f.instr
  bus := (f.place.fetch (s.advance f.place.length)).2.bus
  draws := (f.place.fetch (s.advance f.place.length)).2.draws }

variable {f : Form Operand} {body : Byte → State → Result} {s t u : State}

theorem Form.Reads.exec_eq_body (h : f.Reads body) (s : State) :
    exec f.instr s = body (s.operand f.place) (s.atBody f) := by
  rw [h.exec_eq, readInstr_spec, State.atBody, State.pcn, h.length_eq, State.operand]

/-- A read instruction completes as its body goes on (R110). -/
theorem Form.Reads.completes (h : f.Reads body) (hbody : body (s.operand f.place) (s.atBody f) = .next t)
    (hu : BusOnly u t) : Completes f.instr s u :=
  ⟨t, (h.exec_eq_body s).trans hbody, hu⟩

end Sys2Proof.Machine
end

section
/-! Addition, subtraction and comparison of bytes as numbers, binary and decimal, and the instructions
ADC, SBC, CMP, CPX, CPY, BIT (41_arithmetic_compare.md). -/

namespace Sys2Proof.Machine

/-! ## Bits as numbers -/

theorem bit_le_one (c : Bool) : bit c ≤ 1 := by cases c <;> decide

/-- A borrow is a missing carry. -/
theorem bit_not (c : Bool) : (bit (!c) : Int) = 1 - bit c := by cases c <;> rfl

theorem getLsbD_seven_eq_mask (v : Byte) : v.getLsbD 7 = (v &&& 0x80#8 != 0x00#8) := by
  rw [show 0x80#8 = BitVec.twoPow 8 7 from rfl, BitVec.and_twoPow]
  cases v.getLsbD 7 <;> rfl

/-! ## Binary addition -/

/-- Binary addition, with V as the spec writes it (R141). -/
theorem addBinary_eq (a m : Byte) (c : Bool) : addBinary a m c =
    let sum := a.toNat + m.toNat + bit c
    let r := BitVec.ofNat 8 sum
    { value := r
      n := r.getLsbD 7
      v := (a ^^^ r) &&& (m ^^^ r) &&& 0x80#8 != 0x00#8
      z := r == 0x00#8
      c := decide (256 ≤ sum) } := by
  dsimp only
  rw [← getLsbD_seven_eq_mask]
  rfl

theorem toNat_addBinary_value (a m : Byte) (c : Bool) :
    (addBinary a m c).value.toNat = (a.toNat + m.toNat + bit c) % 256 := rfl

/-- The operands agree in sign and the result does not (R149). -/
theorem addBinary_v_iff_msb (a m : Byte) (c : Bool) : (addBinary a m c).v = true ↔
    a.msb = m.msb ∧ (addBinary a m c).value.msb ≠ a.msb := by
  have hv : (addBinary a m c).v =
      ((a.msb ^^ (addBinary a m c).value.msb) && (m.msb ^^ (addBinary a m c).value.msb)) := by
    simp only [BitVec.msb_eq_getLsbD_last, ← BitVec.getLsbD_xor, ← BitVec.getLsbD_and]; rfl
  rw [hv]
  cases a.msb <;> cases m.msb <;> cases (addBinary a m c).value.msb <;> decide

/-- The carry into bit 7 differs from the carry out of it (R149). -/
theorem addBinary_v_iff_carries (a m : Byte) (c : Bool) : (addBinary a m c).v = true ↔
    ¬(128 ≤ a.toNat % 128 + m.toNat % 128 + bit c ↔ 256 ≤ a.toNat + m.toNat + bit c) := by
  rw [addBinary_v_iff_msb]
  simp only [BitVec.msb_eq_decide, decide_eq_decide, ne_eq]
  have hr := toNat_addBinary_value a m c
  have hbit := bit_le_one c
  omega

/-- The signed sum is not a signed byte (R149). -/
theorem addBinary_v_iff_toInt (a m : Byte) (c : Bool) : (addBinary a m c).v = true ↔
    a.toInt + m.toInt + bit c < -128 ∨ 127 < a.toInt + m.toInt + bit c := by
  rw [addBinary_v_iff_carries]
  simp only [BitVec.toInt_eq_toNat_cond]
  have := bit_le_one c
  omega

/-- The sum wraps, read as signed too (R149). -/
theorem addBinary_value_eq_ofInt (a m : Byte) (c : Bool) :
    (addBinary a m c).value = BitVec.ofInt 8 (a.toInt + m.toInt + bit c) := by
  simp only [BitVec.ofInt_add, BitVec.ofInt_toInt, BitVec.ofInt_natCast]
  simp [addBinary, BitVec.ofNat_add]

/-! ## Binary subtraction -/

theorem toNat_xor_ones (m : Byte) : (m ^^^ 0xFF#8).toNat = 255 - m.toNat := by
  rw [show 0xFF#8 = BitVec.allOnes 8 from rfl, BitVec.xor_allOnes, BitVec.toNat_not]

theorem toInt_xor_ones (m : Byte) : (m ^^^ 0xFF#8).toInt = -1 - m.toInt := by
  simp only [BitVec.toInt_eq_toNat_cond, toNat_xor_ones]
  omega

/-- Binary subtraction, with V as the spec writes it (R143). -/
theorem subBinary_eq (a m : Byte) (c : Bool) : subBinary a m c =
    let d : Int := (a.toNat : Int) - m.toNat - (1 - bit c)
    let r := BitVec.ofInt 8 d
    { value := r
      n := r.getLsbD 7
      v := (a ^^^ m) &&& (a ^^^ r) &&& 0x80#8 != 0x00#8
      z := r == 0x00#8
      c := decide (0 ≤ d) } := by
  dsimp only
  rw [← getLsbD_seven_eq_mask, ← bit_not]
  rfl

/-- At a bit where the result differs from A, the operand differs from A exactly when the operand's
complement differs from the result. -/
theorem and_xor_eq_and_xor_complement (a m r : Byte) :
    (a ^^^ m) &&& (a ^^^ r) = (a ^^^ r) &&& (m ^^^ 0xFF#8 ^^^ r) := by
  rw [show 0xFF#8 = BitVec.allOnes 8 from rfl, BitVec.xor_allOnes]
  ext i
  simp only [BitVec.getElem_and, BitVec.getElem_xor, BitVec.getElem_not]
  cases a[i] <;> cases m[i] <;> cases r[i] <;> rfl

theorem subBinary_value_eq_addBinary (a m : Byte) (c : Bool) :
    (subBinary a m c).value = (addBinary a (m ^^^ 0xFF#8) c).value := by
  apply BitVec.eq_of_toNat_eq
  rw [toNat_addBinary_value, subBinary, BitVec.toNat_ofInt, toNat_xor_ones, bit_not]
  omega

theorem subBinary_c_eq_addBinary (a m : Byte) (c : Bool) :
    (subBinary a m c).c = (addBinary a (m ^^^ 0xFF#8) c).c := by
  simp only [subBinary, addBinary, decide_eq_decide, toNat_xor_ones, bit_not]
  omega

theorem subBinary_v_eq_addBinary (a m : Byte) (c : Bool) :
    (subBinary a m c).v = (addBinary a (m ^^^ 0xFF#8) c).v :=
  calc (subBinary a m c).v
    _ = ((a ^^^ m) &&& (a ^^^ (subBinary a m c).value)).getLsbD 7 := rfl
    _ = (addBinary a (m ^^^ 0xFF#8) c).v := by
      rw [and_xor_eq_and_xor_complement, subBinary_value_eq_addBinary]; rfl

/-- Binary SBC is binary ADC of the complement (R143). -/
theorem subBinary_eq_addBinary (a m : Byte) (c : Bool) : subBinary a m c = addBinary a (m ^^^ 0xFF#8) c := by
  have hvalue := subBinary_value_eq_addBinary a m c
  exact (Arith.mk.injEq ..).mpr ⟨hvalue, congrArg (·.getLsbD 7) hvalue, subBinary_v_eq_addBinary a m c,
    congrArg (· == 0x00#8) hvalue, subBinary_c_eq_addBinary a m c⟩

theorem toInt_complement_sum (a m : Byte) (c : Bool) :
    a.toInt + (m ^^^ 0xFF#8).toInt + bit c = a.toInt - m.toInt - (1 - bit c) := by
  rw [toInt_xor_ones]
  omega

/-- The signed difference is not a signed byte (R149). -/
theorem subBinary_v_iff_toInt (a m : Byte) (c : Bool) : (subBinary a m c).v = true ↔
    a.toInt - m.toInt - (1 - bit c) < -128 ∨ 127 < a.toInt - m.toInt - (1 - bit c) := by
  rw [subBinary_eq_addBinary, addBinary_v_iff_toInt, toInt_complement_sum]

theorem subBinary_value_eq_ofInt (a m : Byte) (c : Bool) :
    (subBinary a m c).value = BitVec.ofInt 8 (a.toInt - m.toInt - (1 - bit c)) := by
  rw [subBinary_eq_addBinary, addBinary_value_eq_ofInt, toInt_complement_sum]

/-! ## Decimal numbers -/

theorem validBcd_iff (v : Byte) : validBcd v = true ↔ tens v ≤ 9 ∧ units v ≤ 9 := by
  simp [validBcd]

theorem toNat_toBcd {n : Nat} (h : n ≤ 99) : (toBcd n).toNat = n / 10 * 16 + n % 10 := by
  rw [toBcd, BitVec.toNat_ofNat]
  omega

theorem tens_toBcd {n : Nat} (h : n ≤ 99) : tens (toBcd n) = n / 10 := by
  rw [tens, toNat_toBcd h]
  omega

theorem units_toBcd {n : Nat} (h : n ≤ 99) : units (toBcd n) = n % 10 := by
  rw [units, toNat_toBcd h]
  omega

theorem bcd_toBcd {n : Nat} (h : n ≤ 99) : bcd (toBcd n) = n := by
  rw [bcd, tens_toBcd h, units_toBcd h, Nat.div_add_mod]

theorem validBcd_toBcd {n : Nat} (h : n ≤ 99) : validBcd (toBcd n) = true := by
  rw [validBcd_iff, tens_toBcd h, units_toBcd h]
  omega

/-- Settles O31, digit by digit. -/
theorem bcdHelpersAgree : Obligations.BcdHelpersAgree :=
  ⟨fun v => ⟨validBcd_iff v, fun _ => rfl⟩, fun _ h => ⟨toNat_toBcd h, bcd_toBcd h, validBcd_toBcd h⟩⟩

/-! ## Decimal addition -/

/-- The sum of the `nmos` algorithm after both corrections (R142). -/
def addNmosFixed (a m : Byte) (c : Bool) : Nat :=
  if 0xA0 ≤ addNmosSum a m c then addNmosSum a m c + 0x60 else addNmosSum a m c

theorem addNmosSum_eq (a m : Byte) (c : Bool) : addNmosSum a m c =
    a.toNat / 16 * 16 + m.toNat / 16 * 16 +
      if 0x0A ≤ a.toNat % 16 + m.toNat % 16 + bit c then (a.toNat % 16 + m.toNat % 16 + bit c + 0x06) % 16 + 0x10
      else a.toNat % 16 + m.toNat % 16 + bit c := by
  rw [addNmosSum, tens, tens, Nat.mul_comm 16, Nat.mul_comm 16]
  rfl

theorem addBinary_z (a m : Byte) (c : Bool) : (addBinary a m c).z = ((a.toNat + m.toNat + bit c) % 256 == 0) := by
  rw [beq_eq_decide, ← toNat_addBinary_value, ← beq_zero_eq_decide]
  rfl

/-- The `nmos` algorithm, with V and Z as the spec writes them (R142). -/
theorem addNmos_eq (a m : Byte) (c : Bool) : addNmos a m c =
    let low := BitVec.ofNat 8 (addNmosSum a m c)
    { value := BitVec.ofNat 8 (addNmosFixed a m c)
      n := low.getLsbD 7
      v := (a ^^^ low) &&& (m ^^^ low) &&& 0x80#8 != 0x00#8
      z := (a.toNat + m.toNat + bit c) % 256 == 0
      c := decide (0x100 ≤ addNmosFixed a m c) } := by
  dsimp only
  rw [← addBinary_z, ← getLsbD_seven_eq_mask]
  rfl

/-- The correction of the low digit carries at ten (R142). -/
theorem fixed_low_eq {al : Nat} (h : al ≤ 19) :
    (if 0x0A ≤ al then (al + 0x06) % 16 + 0x10 else al) = 16 * (al / 10) + al % 10 := by
  split <;> omega

/-- On valid BCD both corrections carry at ten, so that the corrected sum has the decimal sum's digits (R142). -/
theorem addNmosFixed_of_validBcd {a m : Byte} (c : Bool) (ha : validBcd a = true) (hm : validBcd m = true) :
    addNmosFixed a m c = 256 * ((bcd a + bcd m + bit c) / 100) + 16 * ((bcd a + bcd m + bit c) % 100 / 10) +
      (bcd a + bcd m + bit c) % 10 := by
  rw [validBcd_iff] at ha hm
  have hbit := bit_le_one c
  have hlow := fixed_low_eq (al := units a + units m + bit c) (by omega)
  simp only [addNmosFixed, addNmosSum, hlow, bcd]
  split <;> omega

/-- The algorithm's byte and carry are the decimal sum's (R142). -/
theorem addNmos_of_validBcd {a m : Byte} (c : Bool) (ha : validBcd a = true) (hm : validBcd m = true) :
    toBcd ((bcd a + bcd m + bit c) % 100) = BitVec.ofNat 8 (addNmosFixed a m c) ∧
      (100 ≤ bcd a + bcd m + bit c ↔ 0x100 ≤ addNmosFixed a m c) := by
  have hfixed := addNmosFixed_of_validBcd c ha hm
  constructor
  · apply BitVec.eq_of_toNat_eq
    rw [toNat_toBcd (by omega), BitVec.toNat_ofNat]
    omega
  · omega

/-- Decimal addition is the `nmos` algorithm, on valid BCD as on other bytes (R142). -/
theorem addDecimal_eq_addNmos (a m : Byte) (c : Bool) : addDecimal a m c = addNmos a m c := by
  rw [addDecimal]
  split
  next hvalid =>
    rw [Bool.and_eq_true] at hvalid
    obtain ⟨hvalue, hcarry⟩ := addNmos_of_validBcd c hvalid.1 hvalid.2
    dsimp only
    rw [hvalue, decide_eq_decide.mpr hcarry]
    rfl
  next => rfl

/-! ## Decimal subtraction -/

/-- The difference of the `nmos` algorithm after the low digit's correction and before the high digit's (R144). -/
def subNmosDifference (a m : Byte) (c : Bool) : Int :=
  let al : Int := (units a : Int) - units m + bit c - 1
  let al : Int := if al < 0 then (al - 0x06) % 16 - 0x10 else al
  16 * (tens a : Int) - 16 * tens m + al

/-- The difference of the `nmos` algorithm after both corrections (R144). -/
def subNmosFixed (a m : Byte) (c : Bool) : Int :=
  if subNmosDifference a m c < 0 then subNmosDifference a m c - 0x60 else subNmosDifference a m c

theorem subNmosValue_eq (a m : Byte) (c : Bool) : subNmosValue a m c = BitVec.ofInt 8 (subNmosFixed a m c) := rfl

theorem subNmosDifference_eq (a m : Byte) (c : Bool) : subNmosDifference a m c =
    let al : Int := ((a.toNat % 16 : Nat) : Int) - (m.toNat % 16 : Nat) + bit c - 1
    ((a.toNat / 16 * 16 : Nat) : Int) - (m.toNat / 16 * 16 : Nat) +
      if al < 0 then (al - 0x06) % 16 - 0x10 else al := by
  have htens : ∀ v : Byte, 16 * (tens v : Int) = ((v.toNat / 16 * 16 : Nat) : Int) := by
    intro v
    rw [tens, Int.natCast_mul, Int.mul_comm]
    rfl
  rw [subNmosDifference, htens, htens]
  rfl

/-- The correction of the low digit borrows below zero (R144). -/
theorem fixed_borrow_eq {al : Int} (hlow : -10 ≤ al) (hhigh : al ≤ 9) :
    (if al < 0 then (al - 0x06) % 16 - 0x10 else al) = 16 * (al / 10) + al % 10 := by
  split <;> omega

/-- On valid BCD both corrections borrow below zero, so that the corrected difference has the decimal
difference's digits (R144). -/
theorem subNmosFixed_of_validBcd {a m : Byte} (c : Bool) (ha : validBcd a = true) (hm : validBcd m = true) :
    let n : Int := (bcd a : Int) - bcd m - (1 - bit c)
    subNmosFixed a m c = 256 * (n / 100) + 16 * (n % 100 / 10) + n % 10 := by
  rw [validBcd_iff] at ha hm
  have hbit := bit_le_one c
  have hlow := fixed_borrow_eq (al := (units a : Int) - units m + bit c - 1) (by omega) (by omega)
  simp only [subNmosFixed, subNmosDifference, hlow, bcd]
  split <;> omega

/-- The algorithm's byte is the decimal difference (R144). -/
theorem toBcd_difference_of_validBcd {a m : Byte} (c : Bool) (ha : validBcd a = true) (hm : validBcd m = true) :
    toBcd (((bcd a : Int) - bcd m - (1 - bit c)) % 100).toNat = BitVec.ofInt 8 (subNmosFixed a m c) := by
  have hfixed := subNmosFixed_of_validBcd c ha hm
  dsimp only at hfixed
  apply BitVec.eq_of_toNat_eq
  rw [toNat_toBcd (by omega), BitVec.toNat_ofInt]
  omega

/-- On valid BCD the decimal difference borrows where the binary one does (R144). -/
theorem subBinary_c_of_validBcd {a m : Byte} (c : Bool) (ha : validBcd a = true) (hm : validBcd m = true) :
    (subBinary a m c).c = true ↔ 0 ≤ (bcd a : Int) - bcd m - (1 - bit c) := by
  rw [validBcd_iff] at ha hm
  have hbit := bit_le_one c
  rw [subBinary_eq, decide_eq_true_eq]
  simp only [bcd, tens, units] at *
  omega

/-- Decimal subtraction is the byte of the `nmos` algorithm with the flags of the binary subtraction, on
valid BCD as on other bytes (R144). -/
theorem subDecimal_eq (a m : Byte) (c : Bool) :
    subDecimal a m c = { subBinary a m c with value := BitVec.ofInt 8 (subNmosFixed a m c) } := by
  rw [subDecimal]
  split
  next hvalid =>
    rw [Bool.and_eq_true] at hvalid
    obtain ⟨ha, hm⟩ := hvalid
    have hcarry := subBinary_c_of_validBcd c ha hm
    dsimp only
    rw [bit_not, toBcd_difference_of_validBcd c ha hm, ← Bool.decide_congr hcarry, Bool.decide_eq_true]
  next => rw [subNmosValue_eq]

/-! ## ADC and SBC -/

variable {f : Form Operand} {body : Byte → State → Result} {g : Byte → Byte → Bool → Arith} {m : Byte} {r : Arith}
  {s : State}

theorem State.adc_of_binary (h : s.p.d = false) : s.adc m = .next (s.writeArith (addBinary s.a m s.p.c)) := by
  simp [State.adc, h]

theorem State.sbc_of_binary (h : s.p.d = false) : s.sbc m = .next (s.writeArith (subBinary s.a m s.p.c)) := by
  simp [State.sbc, h]

theorem State.adc_of_decimal (h : s.p.d = true) : s.adc m = s.decimalArith addDecimal m := by
  simp [State.adc, h]

theorem State.sbc_of_decimal (h : s.p.d = true) : s.sbc m = s.decimalArith subDecimal m := by
  simp [State.sbc, h]

/-- The operands are valid BCD, or the part runs the algorithm on other bytes too (R142, R144). -/
def State.AdmitsDecimal (s : State) (m : Byte) : Prop :=
  (validBcd s.a = true ∧ validBcd m = true) ∨ s.params.decimalInvalidBcd = .nmos

theorem State.decimalArith_of_admits (h : s.AdmitsDecimal m) :
    s.decimalArith g m = .next (s.writeDecimal (g s.a m s.p.c)) := by
  rw [State.decimalArith]
  split
  next => rfl
  next hvalid =>
    have hnmos : s.params.decimalInvalidBcd = .nmos := h.resolve_left (by simpa using hvalid)
    rw [hnmos]

theorem State.decimalArith_refuses (hvalid : ¬(validBcd s.a = true ∧ validBcd m = true))
    (hrefuse : s.params.decimalInvalidBcd = .refuse) (hany : s.params.unmappedAccess = .anyValue) :
    s.decimalArith g m = .refused (.invalidDecimalOperand s.a m) := by
  rw [State.decimalArith, if_neg (by simpa using hvalid), hrefuse]
  simp [State.refuse, State.stuckAt_anyValue hany]

theorem State.writeDecimal_nmos (h : s.params.decimalFlags = .nmos) : s.writeDecimal r = s.writeArith r := by
  simp [State.writeDecimal, h]

/-- Under `draw`, A and C are the result's, and N, V and Z are free values (R142, R144). -/
theorem State.writeDecimal_draw (h : s.params.decimalFlags = .draw) :
    ∃ n v z, BusOnly (s.writeArith { r with n := n, v := v, z := z }) (s.writeDecimal r) := by
  rw [State.writeDecimal, h]
  exact ⟨_, _, _, rfl⟩

theorem Form.Reads.completes_decimal_nmos (h : f.Reads body)
    (hbody : body (s.operand f.place) (s.atBody f) = (s.atBody f).decimalArith g (s.operand f.place))
    (hflags : s.params.decimalFlags = .nmos) (hadmits : s.AdmitsDecimal (s.operand f.place)) :
    Completes f.instr s ({ s with pc := s.pcn f.instr }.writeArith (g s.a (s.operand f.place) s.p.c)) := by
  rw [State.decimalArith_of_admits (s := s.atBody f) hadmits,
    State.writeDecimal_nmos (s := s.atBody f) hflags] at hbody
  exact h.completes hbody rfl

theorem Form.Reads.completes_decimal_draw (h : f.Reads body)
    (hbody : body (s.operand f.place) (s.atBody f) = (s.atBody f).decimalArith g (s.operand f.place))
    (hflags : s.params.decimalFlags = .draw) (hadmits : s.AdmitsDecimal (s.operand f.place)) :
    ∃ n v z, Completes f.instr s ({ s with pc := s.pcn f.instr }.writeArith
      { g s.a (s.operand f.place) s.p.c with n := n, v := v, z := z }) := by
  obtain ⟨n, v, z, hbus⟩ := State.writeDecimal_draw (s := s.atBody f) (r := g s.a (s.operand f.place) s.p.c) hflags
  rw [State.decimalArith_of_admits (s := s.atBody f) hadmits] at hbody
  exact ⟨n, v, z, h.completes hbody hbus⟩

theorem Form.Reads.refuses_decimal (h : f.Reads body)
    (hbody : body (s.operand f.place) (s.atBody f) = (s.atBody f).decimalArith g (s.operand f.place))
    (hvalid : ¬(validBcd s.a = true ∧ validBcd (s.operand f.place) = true))
    (hrefuse : s.params.decimalInvalidBcd = .refuse) (hany : s.params.unmappedAccess = .anyValue) :
    exec f.instr s = .refused (.invalidDecimalOperand s.a (s.operand f.place)) := by
  rw [h.exec_eq_body, hbody, State.decimalArith_refuses (s := s.atBody f) hvalid hrefuse hany]
  rfl

/-- Settles O25: the body writes the binary sum. -/
theorem adcBinary : Obligations.AdcBinary := by
  intro b w f hf
  have hreads := adcForms_reads f hf
  refine ⟨hreads.listed, fun s hd => ?_⟩
  have hdone : Completes f.instr s
      ({ s with pc := s.pcn f.instr }.writeArith (addBinary s.a (s.operand f.place) s.p.c)) :=
    hreads.completes (State.adc_of_binary hd) rfl
  rwa [addBinary_eq] at hdone

/-- Settles O27: the body writes the binary difference, which is the sum with the complement. -/
theorem sbcBinary : Obligations.SbcBinary := by
  refine ⟨fun b w f hf => ?_, subBinary_eq_addBinary⟩
  have hreads := sbcForms_reads f hf
  refine ⟨hreads.listed, fun s hd => ?_⟩
  have hdone : Completes f.instr s
      ({ s with pc := s.pcn f.instr }.writeArith (subBinary s.a (s.operand f.place) s.p.c)) :=
    hreads.completes (State.sbc_of_binary hd) rfl
  rwa [subBinary_eq] at hdone

/-- Settles O26: decimal addition is the `nmos` algorithm, whose byte and carry are the decimal sum's. -/
theorem adcDecimal : Obligations.AdcDecimal := by
  intro b w f hf s hd
  have hreads := adcForms_reads f hf
  have hbody := State.adc_of_decimal (s := s.atBody f) (m := s.operand f.place) hd
  simp only [← addNmosSum_eq]
  refine ⟨fun ⟨ha, hm⟩ => addNmos_of_validBcd s.p.c ha hm, fun hflags hadmits => ?_, fun hflags hadmits => ?_,
    hreads.refuses_decimal hbody⟩
  · have hdone := hreads.completes_decimal_draw hbody hflags hadmits
    rwa [addDecimal_eq_addNmos] at hdone
  · have hdone := hreads.completes_decimal_nmos hbody hflags hadmits
    rwa [addDecimal_eq_addNmos, addNmos_eq] at hdone

/-- Settles O28: decimal subtraction is the byte of the `nmos` algorithm with the binary flags; on valid BCD
the two are the decimal difference and its carry. -/
theorem sbcDecimal : Obligations.SbcDecimal := by
  intro b w f hf s hd
  have hreads := sbcForms_reads f hf
  have hbody := State.sbc_of_decimal (s := s.atBody f) (m := s.operand f.place) hd
  have hdraw := hreads.completes_decimal_draw hbody
  have hnmos := hreads.completes_decimal_nmos hbody
  simp only [subDecimal_eq] at hdraw hnmos
  simp only [← subNmosDifference_eq]
  refine ⟨fun ⟨ha, hm⟩ => ⟨toBcd_difference_of_validBcd s.p.c ha hm, subBinary_c_of_validBcd s.p.c ha hm⟩,
    fun hflags hdecimal => ?_, fun hflags hinvalid => ?_, hnmos, hreads.refuses_decimal hbody⟩
  · obtain ⟨n, v, z, hdone⟩ := hdraw hflags (.inl hdecimal)
    obtain ⟨ha, hm⟩ := hdecimal
    rw [← Bool.decide_congr (subBinary_c_of_validBcd s.p.c ha hm), Bool.decide_eq_true]
    exact ⟨n, v, z, hdone⟩
  · obtain ⟨n, v, z, hdone⟩ := hdraw hflags (.inr hinvalid)
    exact ⟨n, v, z, _, hdone⟩

/-! ## Overflow -/

/-- Settles O29: V and the result byte are those of the binary sum or difference, whose laws are above. -/
theorem overflowIsSignedOverflow : Obligations.OverflowIsSignedOverflow := by
  intro b w s t hd
  constructor
  · intro f hf hexec
    rw [(adcForms_reads f hf).exec_eq_body, State.adc_of_binary (s := s.atBody f) hd] at hexec
    cases hexec
    exact ⟨addBinary_v_iff_toInt .., addBinary_v_iff_msb .., addBinary_v_iff_carries .., addBinary_value_eq_ofInt ..⟩
  · intro f hf hexec
    rw [(sbcForms_reads f hf).exec_eq_body, State.sbc_of_binary (s := s.atBody f) hd] at hexec
    cases hexec
    exact ⟨subBinary_v_iff_toInt .., subBinary_value_eq_ofInt ..⟩

/-! ## CMP, CPX, CPY, BIT -/

/-- The flags of a compare: Z is equality (R145). -/
theorem Flags.compare_eq (p : Flags) (reg m : Byte) : p.compare reg m =
    { p with n := (reg - m).getLsbD 7, z := decide (reg = m), c := decide (m.toNat ≤ reg.toNat) } := by
  have hz : (reg - m == 0x00#8) = decide (reg = m) := by
    rw [beq_eq_decide, decide_eq_decide]
    exact sub_eq_zero
  rw [Flags.compare, Flags.setNZ, hz]

theorem Flags.bitTest_eq (p : Flags) (a m : Byte) : p.bitTest a m =
    { p with n := m.getLsbD 7, v := m.getLsbD 6, z := decide (a &&& m = 0x00#8) } := by
  rw [Flags.bitTest, beq_eq_decide]

/-- A read instruction whose body writes flags alone. -/
theorem Form.Reads.completes_flags {p : Flags} (h : f.Reads body)
    (hbody : body (s.operand f.place) (s.atBody f) = .next { s.atBody f with p := p }) :
    Completes f.instr s { s with pc := s.pcn f.instr, p := p } :=
  h.completes hbody rfl

/-- Settles O30: each body writes flags alone. -/
theorem comparesAndBitTest : Obligations.ComparesAndBitTest := by
  intro b w
  simp only [← Flags.compare_eq, ← Flags.bitTest_eq]
  refine ⟨fun f hf => ?_, fun f hf => ?_, fun f hf => ?_, fun f hf => ?_⟩
  · have hreads := cmpForms_reads f hf
    exact ⟨hreads.listed, fun s => hreads.completes_flags rfl⟩
  · have hreads := cpxForms_reads f hf
    exact ⟨hreads.listed, fun s => hreads.completes_flags rfl⟩
  · have hreads := cpyForms_reads f hf
    exact ⟨hreads.listed, fun s => hreads.completes_flags rfl⟩
  · have hreads := bitForms_reads f hf
    exact ⟨hreads.listed, fun s => hreads.completes_flags rfl⟩

end Sys2Proof.Machine
end

section
/-! Shifts and rotates as numbers, of one byte and chained over two (42_shift_rotate.md). -/

namespace Sys2Proof.Machine

/-! ## The two bytes of a word -/

theorem toNat_hiLo (hi lo : Byte) : (hiLo hi lo).toNat = 256 * hi.toNat + lo.toNat := by
  have hhigh : (hi.setWidth 16 <<< 8).toNat = hi.toNat <<< 8 := by
    have hhi := hi.isLt
    rw [BitVec.toNat_shiftLeft, BitVec.toNat_setWidth, Nat.shiftLeft_eq, Nat.shiftLeft_eq]
    omega
  rw [hiLo, BitVec.toNat_or, hhigh, BitVec.toNat_setWidth_of_le (by decide),
    ← Nat.shiftLeft_add_eq_or_of_lt lo.isLt, Nat.shiftLeft_eq, Nat.mul_comm]

theorem getLsbD_hiLo_fifteen (hi lo : Byte) : (hiLo hi lo).getLsbD 15 = hi.getLsbD 7 := by
  simp [hiLo]

theorem getLsbD_hiLo_zero (hi lo : Byte) : (hiLo hi lo).getLsbD 0 = lo.getLsbD 0 := by
  simp [hiLo]

/-! ## The bit moved out -/

/-- ASL and ROL move out bit 7 (R171, R173). -/
theorem bit_getLsbD_seven (v : Byte) : bit (v.getLsbD 7) = v.toNat / 128 := by
  have hv := v.isLt
  simp only [getLsbD_seven_eq_decide, bit, decide_eq_true_eq]
  split <;> omega

/-- LSR and ROR move out bit 0 (R172, R174). -/
theorem bit_getLsbD_zero (v : Byte) : bit (v.getLsbD 0) = v.toNat % 2 := by
  simp only [BitVec.getLsbD, Nat.testBit_zero, bit, decide_eq_true_eq]
  split <;> omega

/-! ## The result byte -/

/-- ASL doubles the byte (R171). -/
theorem toNat_asl (v : Byte) (p : Flags) : (asl v p).1.toNat = 2 * v.toNat % 256 := by
  rw [asl, shifted, BitVec.toNat_shiftLeft, Nat.shiftLeft_eq, Nat.mul_comm]

/-- LSR halves the byte (R172). -/
theorem toNat_lsr (v : Byte) (p : Flags) : (lsr v p).1.toNat = v.toNat / 2 := by
  rw [lsr, shifted, BitVec.toNat_ushiftRight, Nat.shiftRight_eq_div_pow, Nat.pow_one]

/-- ROL doubles the byte, and the old C fills bit 0, which the shift left empty (R173). -/
theorem toNat_rol (v : Byte) (p : Flags) : (rol v p).1.toNat = 2 * v.toNat % 256 + bit p.c := by
  have hdisjoint : v <<< 1 &&& BitVec.ofNat 8 (bit p.c) = 0#8 := by
    cases p.c
    · exact BitVec.and_zero
    · ext i hi
      cases i <;> simp [bit]
  have hbit := bit_le_one p.c
  rw [rol, shifted, ← BitVec.add_eq_or_of_and_eq_zero _ _ hdisjoint, BitVec.toNat_add, BitVec.toNat_shiftLeft,
    BitVec.toNat_ofNat, Nat.shiftLeft_eq]
  omega

/-- ROR halves the byte, and the old C fills bit 7, which the shift left empty (R174). -/
theorem toNat_ror (v : Byte) (p : Flags) : (ror v p).1.toNat = v.toNat / 2 + 128 * bit p.c := by
  have hdisjoint : v >>> 1 &&& BitVec.ofNat 8 (bit p.c) <<< 7 = 0#8 := by
    ext i hi
    by_cases h7 : i < 7
    · simp [h7]
    · obtain rfl : i = 7 := by omega
      simp
  have hbit := bit_le_one p.c
  have hv := v.isLt
  rw [ror, shifted, ← BitVec.add_eq_or_of_and_eq_zero _ _ hdisjoint, BitVec.toNat_add, BitVec.toNat_ushiftRight,
    BitVec.toNat_shiftLeft, BitVec.toNat_ofNat, Nat.shiftRight_eq_div_pow, Nat.shiftLeft_eq]
  omega

/-! ## Two bytes -/

/-- Bit 7 of the low byte is the C that ASL hands to ROL (R178). -/
theorem toNat_asl_rol (lo hi : Byte) (p : Flags) :
    (hiLo (rol hi (asl lo p).2).1 (asl lo p).1).toNat = 2 * (hiLo hi lo).toNat % 65536 := by
  have hcarry : bit (asl lo p).2.c = lo.toNat / 128 := bit_getLsbD_seven lo
  simp only [toNat_hiLo, toNat_rol, toNat_asl, hcarry]
  omega

/-- Bit 0 of the high byte is the C that LSR hands to ROR (R178). -/
theorem toNat_lsr_ror (lo hi : Byte) (p : Flags) :
    (hiLo (lsr hi p).1 (ror lo (lsr hi p).2).1).toNat = (hiLo hi lo).toNat / 2 := by
  have hcarry : bit (lsr hi p).2.c = hi.toNat % 2 := bit_getLsbD_zero hi
  simp only [toNat_hiLo, toNat_ror, toNat_lsr, hcarry]
  omega

/-- Settles O36: the two bytes as numbers, and the bit that the second shift moves out. -/
theorem sixteenBitShiftsChain : Obligations.SixteenBitShiftsChain := fun lo hi p =>
  ⟨⟨toNat_asl_rol lo hi p, (getLsbD_hiLo_fifteen hi lo).symm⟩,
    ⟨toNat_lsr_ror lo hi p, (getLsbD_hiLo_zero hi lo).symm⟩⟩

end Sys2Proof.Machine
end

section
/-! The conditional branches: the target as a sum, and what the eight have in common (43_branch.md). -/

namespace Sys2Proof.Machine

/-! ## The two bytes of a word, and the carry of two bytes -/

theorem toNat_hiByte (w : Word) : (hiByte w).toNat = w.toNat / 256 := by
  rw [hiByte, BitVec.toNat_setWidth, BitVec.toNat_ushiftRight, Nat.shiftRight_eq_div_pow]
  omega

theorem toNat_loByte (w : Word) : (loByte w).toNat = w.toNat % 256 :=
  BitVec.toNat_setWidth ..

/-- The carry out of a sum of two bytes is the sum's ninth bit. -/
theorem bit_carry (a b : Byte) : bit (decide (256 ≤ a.toNat + b.toNat)) = (a.toNat + b.toNat) / 256 := by
  have ha := a.isLt
  have hb := b.isLt
  simp only [bit, decide_eq_true_eq]
  split <;> omega

/-! ## The target of a branch -/

/-- The target is the next instruction's address plus the signed offset (R199). -/
theorem branchTarget_eq_ofInt (pcn : Word) (oper : Byte) :
    branchTarget pcn oper = BitVec.ofInt 16 ((pcn.toNat : Int) + oper.toInt) := by
  rw [BitVec.ofInt_add, BitVec.ofInt_natCast, BitVec.ofNat_toNat, BitVec.setWidth_eq]
  rfl

theorem toNat_branchTarget (pcn : Word) (oper : Byte) :
    ((branchTarget pcn oper).toNat : Int) = ((pcn.toNat : Int) + oper.toInt) % 65536 := by
  rw [branchTarget_eq_ofInt, BitVec.toNat_ofInt]
  omega

/-- A positive offset: a carry out of the low byte goes up (R199). -/
theorem branchTarget_of_positive {oper : Byte} (pcn : Word) (hsign : oper.getLsbD 7 = false) :
    let lo9 := (loByte pcn).toNat + oper.toNat
    branchTarget pcn oper =
      hiLo (BitVec.ofNat 8 ((hiByte pcn).toNat + bit (decide (256 ≤ lo9)))) (BitVec.ofNat 8 lo9) := by
  have hoffset : oper.toInt = oper.toNat :=
    BitVec.toInt_eq_toNat_of_msb (oper.msb_eq_getLsbD_last.trans hsign)
  have htarget := toNat_branchTarget pcn oper
  have hcarry := bit_carry (loByte pcn) oper
  apply BitVec.eq_of_toNat_eq
  simp only [toNat_hiLo, toNat_hiByte, toNat_loByte, BitVec.toNat_ofNat] at hcarry ⊢
  omega

/-- A negative offset: a carry is expected, and its absence is a borrow from the high byte (R199). -/
theorem branchTarget_of_negative {oper : Byte} (pcn : Word) (hsign : oper.getLsbD 7 = true) :
    let lo9 := (loByte pcn).toNat + oper.toNat
    branchTarget pcn oper =
      hiLo (BitVec.ofNat 8 ((hiByte pcn).toNat + 256 - bit (!decide (256 ≤ lo9)))) (BitVec.ofNat 8 lo9) := by
  have hoffset : oper.toInt = oper.toNat - 256 := by
    rw [BitVec.toInt_eq_msb_cond, BitVec.msb_eq_getLsbD_last, hsign]
    rfl
  have htarget := toNat_branchTarget pcn oper
  have hborrow := bit_not (decide (256 ≤ (loByte pcn).toNat + oper.toNat))
  rw [bit_carry] at hborrow
  apply BitVec.eq_of_toNat_eq
  simp only [toNat_hiLo, toNat_hiByte, toNat_loByte, BitVec.toNat_ofNat] at hborrow ⊢
  omega

/-- The target from the address of the branch itself: its two bytes, then the offset (R199). -/
theorem branchTarget_next (pc : Word) (oper : Byte) : branchTarget (pc + 2) oper = pc + (2 + sext oper) :=
  BitVec.add_assoc ..

/-- Settles O38: the two-step sum by the sign of the offset, the signed sum as a number, and the sums
of 2 with the offsets 0, -2 and -1. -/
theorem branchTargetInTwoSteps : Obligations.BranchTargetInTwoSteps := by
  refine ⟨fun pcn oper => ?_, fun pcn oper => ?_, fun pc => ?_⟩
  · cases hsign : oper.getLsbD 7
    · exact branchTarget_of_positive pcn hsign
    · exact branchTarget_of_negative pcn hsign
  · exact ⟨oper.toInt, oper.le_toInt, Int.le_of_lt_add_one oper.toInt_lt, toNat_branchTarget pcn oper⟩
  · simp only [branchTarget_next]
    exact ⟨rfl, BitVec.add_zero pc, rfl⟩

/-! ## The eight branches -/

/-- `i` is the branch with the opcode and the offset, and `cond` is the value its condition has in `s`. -/
structure Branches (i : Instr) (op oper : Byte) (cond : Bool) (s : State) : Prop where
  encode_eq : encode i = [op, oper]
  cycles_eq : cycles i s = 2 + branchCycles cond oper s
  exec_eq : exec i s = branchInstr cond oper s

/-- The mnemonics with their opcodes and conditions (R191 to R198). -/
def branchForms (oper : Byte) (p : Flags) : List (Instr × Byte × Bool) := [
  (.bcc oper, 0x90#8, !p.c), (.bcs oper, 0xB0#8, p.c), (.beq oper, 0xF0#8, p.z), (.bmi oper, 0x30#8, p.n),
  (.bne oper, 0xD0#8, !p.z), (.bpl oper, 0x10#8, !p.n), (.bvc oper, 0x50#8, !p.v), (.bvs oper, 0x70#8, p.v)]

theorem branchForms_branches {oper : Byte} {s : State} :
    ∀ c ∈ branchForms oper s.p, Branches c.1 c.2.1 oper c.2.2 s := by
  intro c hc
  fin_cases hc <;> exact ⟨rfl, rfl, rfl⟩

variable {i : Instr} {op oper : Byte} {cond : Bool} {s : State}

/-- The cycles depend on whether the branch is taken and on the page of its target (R200). -/
theorem Branches.cycles_eq_ite (h : Branches i op oper cond s) : cycles i s =
    if cond = true then (if hiByte (branchTarget (s.pc + 2) oper) = hiByte (s.pc + 2) then 3 else 4) else 2 := by
  rw [h.cycles_eq, branchCycles]
  cases cond
  case false => rfl
  case true => rw [if_pos rfl, if_pos rfl]; split <;> rfl

/-- A branch writes PC alone (R190, R201). -/
theorem Branches.completes (h : Branches i op oper cond s) :
    Completes i s { s with pc := if cond = true then branchTarget (s.pc + 2) oper else s.pc + 2 } := by
  rw [Completes, h.exec_eq]
  exact branchInstr_spec cond oper s

/-- Settles O37: what the eight have in common, with the target as the signed sum. -/
theorem branchesTestOneFlag : Obligations.BranchesTestOneFlag := by
  intro s b c hc
  have hbranches := branchForms_branches c hc
  dsimp only
  rw [← branchTarget_eq_ofInt]
  exact ⟨hbranches.encode_eq, hbranches.cycles_eq_ite, hbranches.completes⟩

end Sys2Proof.Machine
end

section
/-! RTS and RTI, and the calls and the interrupt entries they return from (44_jump_subroutine.md). -/

namespace Sys2Proof.Machine

variable {s t u : State} {n b v x : Byte} {w ret : Word}

/-! ## Pulling -/

/-- What differs in the history and the count of free values alone still does after PC is written. -/
theorem BusOnly.setPc (h : BusOnly s t) (w : Word) : BusOnly { s with pc := w } { t with pc := w } := by
  unfold BusOnly
  rw [h]

/-- As for PC: the flags are neither of the two. -/
theorem BusOnly.setP (h : BusOnly s t) (q : Flags) : BusOnly { s with p := q } { t with p := q } := by
  unfold BusOnly
  rw [h]

/-- The state in which an instruction makes its first pull: past its opcode, with its discarded reads made (R125). -/
def State.beforePull (s : State) : State := s.implied.dummyRead (stackAddr s.implied.sp)

/-- `t` is what the instruction at `s` has reached with `n` bytes pulled, but for the history and the
count of free values. -/
def Pulled (n : Byte) (s t : State) : Prop := BusOnly { s with pc := s.pc + 1, sp := s.sp + n } t

theorem State.pulled_beforePull (s : State) : Pulled 0 s s.beforePull := by
  unfold Pulled
  rw [add_zero]
  exact s.implied_busOnly.trans (s.implied.dummyRead_busOnly _)

/-- A pull raises S by one, and no other field that `Pulled` speaks of (R63). -/
theorem Pulled.pull (h : Pulled n s t) : Pulled (n + 1) s t.pull.2 := by
  unfold Pulled at h ⊢
  rw [← BitVec.add_assoc, BusOnly, t.pull_snd, h]

/-- A pull hands over what the byte above S delivered before the instruction: the pulls before it wrote no memory (R63). -/
theorem Pulled.delivers (h : Pulled n s t) : s.Delivers (stackAddr (s.sp + (n + 1))) t.pull.1 := by
  have hdelivers : t.Delivers (stackAddr (t.sp + 1)) t.pull.1 := State.pull_fst_of_backed
  rw [← BitVec.add_assoc, ← show t.sp = s.sp + n from h.sp]
  exact (State.delivers_congr h.params h.mem _ _).1 hdelivers

/-! ## RTS and RTI -/

/-- RTS pulls PC, low byte first, and its last discarded read is at that address (R213). -/
theorem exec_rts (s : State) :
    let t := s.beforePull
    let pc := hiLo t.pull.2.pull.1 t.pull.1
    exec .rts s = .next { t.pull.2.pull.2.dummyRead pc with pc := pc + 1 } := rfl

/-- RTI pulls P and then PC, low byte first (R214). -/
theorem exec_rti (s : State) :
    let t := s.beforePull
    exec .rti s = .next { t.pull.2.pull.2.pull.2 with
      pc := hiLo t.pull.2.pull.2.pull.1 t.pull.2.pull.1
      p := Flags.unpack t.pull.1 } := rfl

theorem completes_rts (s : State) :
    ∃ lo hi, s.Delivers (stackAddr (s.sp + 1)) lo ∧ s.Delivers (stackAddr (s.sp + 2)) hi ∧
      Completes .rts s { s with sp := s.sp + 2, pc := hiLo hi lo + 1 } := by
  have hnone := s.pulled_beforePull
  have hlo := hnone.pull
  have hhi := hlo.pull
  exact ⟨_, _, hnone.delivers, hlo.delivers, _, exec_rts s, (hhi.trans (State.dummyRead_busOnly _ _)).setPc _⟩

theorem completes_rti (s : State) :
    ∃ v lo hi, s.Delivers (stackAddr (s.sp + 1)) v ∧ s.Delivers (stackAddr (s.sp + 2)) lo ∧
      s.Delivers (stackAddr (s.sp + 3)) hi ∧
      Completes .rti s { s with sp := s.sp + 3, pc := hiLo hi lo, p := Flags.unpack v } := by
  have hnone := s.pulled_beforePull
  have hp := hnone.pull
  have hlo := hp.pull
  have hhi := hlo.pull
  let t := s.beforePull
  have hpc := hhi.setPc (hiLo t.pull.2.pull.2.pull.1 t.pull.2.pull.1)
  exact ⟨_, _, _, hnone.delivers, hp.delivers, hlo.delivers, _, exec_rti s, hpc.setP (Flags.unpack t.pull.1)⟩

/-- Settles O41: the completion of RTS, with the table's bytes and cycles. -/
theorem rtsPullsPc : Obligations.RtsPullsPc :=
  ⟨⟨rfl, fun _ => rfl⟩, completes_rts⟩

/-- Settles O42: the completion of RTI, with the table's bytes and cycles. -/
theorem rtiPullsFlagsAndPc : Obligations.RtiPullsFlagsAndPc :=
  ⟨⟨rfl, fun _ => rfl⟩, completes_rti⟩

/-! ## A byte kept on the stack -/

/-- The byte of page one at `b` is RAM and holds `v`. -/
def State.StackHolds (s : State) (b v : Byte) : Prop :=
  s.kindAt (stackAddr b) = .ram ∧ s.byteAt (stackAddr b) = v

/-- The stack byte is unmodified on the same platform (R215). -/
theorem State.StackHolds.congr (h : s.StackHolds b v) (hparams : t.params = s.params)
    (hbyte : t.byteAt (stackAddr b) = s.byteAt (stackAddr b)) : t.StackHolds b v :=
  ⟨(State.kindAt_of_params_eq hparams _).trans h.1, hbyte.trans h.2⟩

theorem State.StackHolds.eq_of_delivers (h : s.StackHolds b v) (hx : s.Delivers (stackAddr b) x) : x = v := by
  have hanswers : s.answers (stackAddr b) = true := by rw [State.answers, h.1]; rfl
  exact (hx hanswers).trans h.2

/-- A push into RAM is kept where S was (R62). -/
theorem State.push_stackHolds (v : Byte) (h : s.kindAt (stackAddr s.sp) = .ram) : (s.push v).StackHolds s.sp v :=
  ⟨(s.kindAt_push v _).trans h, by rw [State.byteAt_push, if_pos ⟨rfl, h⟩]⟩

/-- A push leaves the other bytes of the stack alone (R62). -/
theorem State.StackHolds.push (h : s.StackHolds b v) (hb : b ≠ s.sp) : (s.push x).StackHolds b v :=
  h.congr rfl (by rw [State.byteAt_push, if_neg fun hat => hb (stackAddr_inj.1 hat.1)])

/-- A word is kept on the stack as it is pushed: its high byte at `b`, its low byte below. -/
def State.StackHoldsWord (s : State) (b : Byte) (w : Word) : Prop :=
  s.StackHolds b (hiByte w) ∧ s.StackHolds (b - 1) (loByte w)

theorem State.StackHoldsWord.congr (h : s.StackHoldsWord b w) (hparams : t.params = s.params)
    (hhi : t.byteAt (stackAddr b) = s.byteAt (stackAddr b))
    (hlo : t.byteAt (stackAddr (b - 1)) = s.byteAt (stackAddr (b - 1))) : t.StackHoldsWord b w :=
  ⟨h.1.congr hparams hhi, h.2.congr hparams hlo⟩

/-- The two bytes that are delivered from where a word is kept make up the word. -/
theorem State.StackHoldsWord.hiLo_of_delivers {hi lo : Byte} (h : s.StackHoldsWord b w)
    (hhi : s.Delivers (stackAddr b) hi) (hlo : s.Delivers (stackAddr (b - 1)) lo) : hiLo hi lo = w := by
  rw [h.1.eq_of_delivers hhi, h.2.eq_of_delivers hlo, hiLo_hiByte_loByte]

/-- The two pushes of a return address (R212, R318). -/
theorem State.push_push_stackHoldsWord (w : Word) (hhi : s.kindAt (stackAddr s.sp) = .ram)
    (hlo : s.kindAt (stackAddr (s.sp - 1)) = .ram) :
    ((s.push (hiByte w)).push (loByte w)).StackHoldsWord s.sp w :=
  ⟨(State.push_stackHolds _ hhi).push (by rw [State.push_sp]; bv_omega),
    State.push_stackHolds (s := s.push (hiByte w)) _ hlo⟩

/-! ## JSR and RTS -/

/-- JSR pushes before it reads its last byte (R212). -/
theorem exec_jsr (w : Word) (s : State) :
    let t := (((s.advance 3).dummyRead (stackAddr s.sp)).push (hiByte (s.pc + 2))).push (loByte (s.pc + 2))
    exec (.jsr w) s = .next { t.noteRead (s.pc + 2) with pc := hiLo (t.peek (s.pc + 2)) (loByte w) } := rfl

/-- JSR keeps the address of its own last byte on the stack (R212). -/
theorem stackHoldsWord_of_exec_jsr (hexec : exec (.jsr w) s = .next t)
    (hhi : s.kindAt (stackAddr s.sp) = .ram) (hlo : s.kindAt (stackAddr (s.sp - 1)) = .ram) :
    t.sp = s.sp - 2 ∧ t.StackHoldsWord s.sp (s.pc + 2) := by
  rw [exec_jsr] at hexec
  cases hexec
  have hword := State.push_push_stackHoldsWord (s := (s.advance 3).dummyRead (stackAddr s.sp)) (s.pc + 2)
    (by simpa using hhi) (by simpa using hlo)
  rw [State.dummyRead_sp] at hword
  have hsp : s.sp - 1 - 1 = s.sp - 2 := by bv_omega
  exact ⟨by simpa using hsp, hword⟩

/-- RTS takes PC from the word kept below `b`, where S ends (R213). -/
theorem exec_rts_of_stackHoldsWord (hsp : u.sp = b - 2) (hword : u.StackHoldsWord b w) :
    ∃ v, exec .rts u = .next v ∧ v.pc = w + 1 ∧ v.sp = b := by
  obtain ⟨lo, hi, hlo, hhi, v, hexec, hv⟩ := completes_rts u
  rw [show u.sp + 1 = b - 1 by bv_omega] at hlo
  rw [show u.sp + 2 = b by bv_omega] at hhi hv
  rw [hword.hiLo_of_delivers hhi hlo] at hv
  exact ⟨v, hexec, by rw [hv], by rw [hv]⟩

/-! ## An interrupt entry and RTI -/

/-- The three bytes that an entry pushes go into RAM. -/
structure State.EntryInRam (s : State) : Prop where
  pch : s.kindAt (stackAddr s.sp) = .ram
  pcl : s.kindAt (stackAddr (s.sp - 1)) = .ram
  flags : s.kindAt (stackAddr (s.sp - 2)) = .ram

/-- `t` is an entry from `s`: S is lower by 3, and the stack keeps the return address and P, with
either break bit (R318). -/
structure Enters (s : State) (ret : Word) (t : State) : Prop where
  sp_eq : t.sp = s.sp - 3
  word : t.StackHoldsWord s.sp ret
  flags : ∃ brk, t.StackHolds (s.sp - 2) (s.p.pack brk)

/-- With the stack bytes unmodified and S where the entry left it, the state is as good as the entry's (R215). -/
theorem Enters.congr (h : Enters s ret t) (hsp : u.sp = t.sp) (hparams : u.params = t.params)
    (hbytes : ∀ a ∈ [stackAddr s.sp, stackAddr (s.sp - 1), stackAddr (s.sp - 2)], u.byteAt a = t.byteAt a) :
    Enters s ret u := by
  obtain ⟨brk, hflags⟩ := h.flags
  exact {
    sp_eq := hsp.trans h.sp_eq
    word := h.word.congr hparams (hbytes _ (by simp)) (hbytes _ (by simp))
    flags := ⟨brk, hflags.congr hparams (hbytes _ (by simp))⟩ }

/-- The three pushes of an entry; the vector is read after them (R318). -/
theorem State.EntryInRam.enters (h : s.EntryInRam) (brk : Bool) (ret vec : Word) :
    Enters s ret (s.enterInterrupt ret brk vec) := by
  let t := (s.push (hiByte ret)).push (loByte ret)
  have hsp : t.sp = s.sp - 2 := by simp only [t, State.push_sp]; bv_omega
  have hword : t.StackHoldsWord s.sp ret := State.push_push_stackHoldsWord ret h.pch h.pcl
  have hflags : (t.push (s.p.pack brk)).StackHolds t.sp (s.p.pack brk) :=
    State.push_stackHolds _ (by rw [hsp]; exact h.flags)
  rw [hsp] at hflags
  have hentered : (s.enterInterrupt ret brk vec).sp = t.sp - 1 := rfl
  exact {
    sp_eq := by rw [hentered, hsp]; bv_omega
    word := ⟨hword.1.push (by rw [hsp]; bv_omega), hword.2.push (by rw [hsp]; bv_omega)⟩
    flags := ⟨brk, hflags⟩ }

/-- The discarded reads before an entry, and a write of PC, change nothing that it saves (R125). -/
theorem State.EntryInRam.enters_of_busOnly {r : State} (h : s.EntryInRam) (hr : BusOnly { s with pc := w } r)
    (brk : Bool) (ret vec : Word) : Enters s ret (r.enterInterrupt ret brk vec) := by
  have hram : r.EntryInRam := by rw [hr]; exact ⟨h.pch, h.pcl, h.flags⟩
  obtain ⟨hsp, hword, hflags⟩ := hram.enters brk ret vec
  rw [hr.sp] at hsp hword hflags
  rw [hr.p] at hflags
  exact ⟨hsp, hword, hflags⟩

/-- The two discarded reads at PC before an IRQ or an NMI is entered (R125). -/
theorem State.discardedFetches_busOnly (s : State) : BusOnly s ((s.dummyRead s.pc).dummyRead s.pc) :=
  (s.dummyRead_busOnly _).trans (State.dummyRead_busOnly _ _)

theorem State.EntryInRam.takeIrq_enters (h : s.EntryInRam) : Enters s s.pc s.takeIrq :=
  h.enters_of_busOnly s.discardedFetches_busOnly false s.pc irqVector

/-- The discarded reads leave the return address, and clearing the latch leaves what the entry saved (R314). -/
theorem State.EntryInRam.takeNmi_enters (h : s.EntryInRam) : Enters s s.pc s.takeNmi := by
  have hread := s.discardedFetches_busOnly
  rw [← hread.pc]
  exact (h.enters_of_busOnly hread false _ nmiVector).congr rfl rfl fun _ _ => rfl

/-- BRK returns to the address two past its opcode (R293). -/
theorem State.EntryInRam.enters_of_exec_brk (h : s.EntryInRam) (hexec : exec .brk s = .next t) :
    Enters s (s.pc + 2) t := by
  have hbrk : exec .brk s = .next (s.implied.enterInterrupt (s.pc + 2) true irqVector) := rfl
  rw [hbrk] at hexec
  cases hexec
  exact h.enters_of_busOnly s.implied_busOnly true (s.pc + 2) irqVector

/-- RTI brings back what the entry saved; UnpackP does not see the break bit (R214, R35). -/
theorem Enters.rti_restores (h : Enters s ret u) :
    ∃ v, exec .rti u = .next v ∧ v.pc = ret ∧ v.sp = s.sp ∧ v.p = s.p := by
  obtain ⟨hsp, hword, brk, hflags⟩ := h
  obtain ⟨image, lo, hi, himage, hlo, hhi, v, hexec, hv⟩ := completes_rti u
  rw [show u.sp + 1 = s.sp - 2 by bv_omega] at himage
  rw [show u.sp + 2 = s.sp - 1 by bv_omega] at hlo
  rw [show u.sp + 3 = s.sp by bv_omega] at hhi hv
  rw [hword.hiLo_of_delivers hhi hlo, hflags.eq_of_delivers himage, Flags.unpack_pack] at hv
  exact ⟨v, hexec, by rw [hv], by rw [hv], by rw [hv]⟩

/-- Settles O43: what JSR or an entry keeps on the stack is what RTS or RTI takes from it. -/
theorem callAndInterruptReturn : Obligations.CallAndInterruptReturn := by
  constructor
  · intro w s t u hhi hlo hexec hsp hparams hbytes
    obtain ⟨htsp, hword⟩ := stackHoldsWord_of_exec_jsr hexec hhi hlo
    have hkept : u.StackHoldsWord s.sp (s.pc + 2) :=
      hword.congr hparams (hbytes _ (by simp)) (hbytes _ (by simp))
    rw [show s.pc + 3 = s.pc + 2 + 1 by rw [BitVec.add_assoc]; rfl]
    exact exec_rts_of_stackHoldsWord (hsp.trans htsp) hkept
  · intro s t u ret hhi hlo hp hentry hsp hparams hbytes
    have hram : s.EntryInRam := ⟨hhi, hlo, hp⟩
    have henters : Enters s ret t := by
      obtain ⟨rfl, rfl⟩ | ⟨rfl, rfl⟩ | ⟨hexec, rfl⟩ := hentry
      · exact hram.takeIrq_enters
      · exact hram.takeNmi_enters
      · exact hram.enters_of_exec_brk hexec
    exact (henters.congr hsp hparams hbytes).rti_restores

end Sys2Proof.Machine
end

section
/-! The loads, the one-byte instructions that change the registers alone, and the six transfers among
them (45_load_store_transfer.md). -/

namespace Sys2Proof.Machine

/-! ## LDA, LDX, LDY -/

theorem ldaForms_reads {b : Byte} {w : Word} : ∀ f ∈ ldaForms b w, f.Reads State.lda := by
  intro f hf
  fin_cases hf <;> exact ⟨⟨rfl, fun _ => rfl⟩, rfl, fun _ => rfl⟩

theorem ldxForms_reads {b : Byte} {w : Word} : ∀ f ∈ ldxForms b w, f.Reads State.ldx := by
  intro f hf
  fin_cases hf <;> exact ⟨⟨rfl, fun _ => rfl⟩, rfl, fun _ => rfl⟩

theorem ldyForms_reads {b : Byte} {w : Word} : ∀ f ∈ ldyForms b w, f.Reads State.ldy := by
  intro f hf
  fin_cases hf <;> exact ⟨⟨rfl, fun _ => rfl⟩, rfl, fun _ => rfl⟩

/-- Settles O44: each body loads its register with the operand, in a state that differs from the one
before in PC, the history and the count of free values alone. -/
theorem loadsTakeTheOperand : Obligations.LoadsTakeTheOperand := by
  intro b w
  refine ⟨fun f hf => ?_, fun f hf => ?_, fun f hf => ?_⟩
  · have hreads := ldaForms_reads f hf
    exact ⟨hreads.listed, fun s => hreads.completes rfl rfl⟩
  · have hreads := ldxForms_reads f hf
    exact ⟨hreads.listed, fun s => hreads.completes rfl rfl⟩
  · have hreads := ldyForms_reads f hf
    exact ⟨hreads.listed, fun s => hreads.completes rfl rfl⟩

/-! ## The one-byte instructions -/

/-- The instruction is its opcode byte alone and takes two cycles, and its meaning is to move PC on and
make the change `body`, which neither reads nor writes the history and the count of free values (R111). -/
structure Implies (i : Instr) (op : Byte) (body : State → State) : Prop where
  listed : Listed i [op] 2
  exec_eq : ∀ s, exec i s = impliedInstr body s
  body_frame : ∀ (s : State) (bus : List BusEvent) (draws : Nat),
    body { s with bus := bus, draws := draws } = { body s with bus := bus, draws := draws }

/-- A one-byte instruction completes in its change of the state with PC moved on: the discarded read
before the change is seen in the history alone (R111). -/
theorem Implies.completes {i : Instr} {op : Byte} {body : State → State} (h : Implies i op body) (s : State) :
    Completes i s (body (s.advance 1)) := by
  have hbody : body s.implied =
      { body (s.advance 1) with bus := s.implied.bus, draws := s.implied.draws } := by
    conv_lhs => rw [s.implied_busOnly]
    exact h.body_frame _ _ _
  exact ⟨body s.implied, h.exec_eq s, by rw [hbody]⟩

/-! ## The transfers -/

theorem tax_implies : Implies .tax 0xAA#8 fun t => t.loadX t.a :=
  ⟨⟨rfl, fun _ => rfl⟩, fun _ => rfl, fun _ _ _ => rfl⟩

theorem tay_implies : Implies .tay 0xA8#8 fun t => t.loadY t.a :=
  ⟨⟨rfl, fun _ => rfl⟩, fun _ => rfl, fun _ _ _ => rfl⟩

theorem tsx_implies : Implies .tsx 0xBA#8 fun t => t.loadX t.sp :=
  ⟨⟨rfl, fun _ => rfl⟩, fun _ => rfl, fun _ _ _ => rfl⟩

theorem txa_implies : Implies .txa 0x8A#8 fun t => t.loadA t.x :=
  ⟨⟨rfl, fun _ => rfl⟩, fun _ => rfl, fun _ _ _ => rfl⟩

/-- TXS alone of the six writes no flag (R241). -/
theorem txs_implies : Implies .txs 0x9A#8 fun t => { t with sp := t.x } :=
  ⟨⟨rfl, fun _ => rfl⟩, fun _ => rfl, fun _ _ _ => rfl⟩

theorem tya_implies : Implies .tya 0x98#8 fun t => t.loadA t.y :=
  ⟨⟨rfl, fun _ => rfl⟩, fun _ => rfl, fun _ _ _ => rfl⟩

/-- Settles O46: each transfer is a one-byte instruction, and moving PC on leaves its source and the
flags as they were. -/
theorem transfersCopyOneRegister : Obligations.TransfersCopyOneRegister :=
  ⟨tax_implies.listed, tay_implies.listed, tsx_implies.listed, txa_implies.listed, txs_implies.listed,
    tya_implies.listed, fun s =>
    ⟨tax_implies.completes s, tay_implies.completes s, tsx_implies.completes s, txa_implies.completes s,
      txs_implies.completes s, tya_implies.completes s⟩⟩

end Sys2Proof.Machine
end

section
/-! Logic on the accumulator, and the index registers counted up and down
(46_named_only_logic_incdec.md). -/

namespace Sys2Proof.Machine

/-! ## AND, EOR, ORA -/

theorem andForms_reads {b : Byte} {w : Word} : ∀ f ∈ andForms b w, f.Reads State.and := by
  intro f hf
  fin_cases hf <;> exact ⟨⟨rfl, fun _ => rfl⟩, rfl, fun _ => rfl⟩

theorem eorForms_reads {b : Byte} {w : Word} : ∀ f ∈ eorForms b w, f.Reads State.eor := by
  intro f hf
  fin_cases hf <;> exact ⟨⟨rfl, fun _ => rfl⟩, rfl, fun _ => rfl⟩

theorem oraForms_reads {b : Byte} {w : Word} : ∀ f ∈ oraForms b w, f.Reads State.ora := by
  intro f hf
  fin_cases hf <;> exact ⟨⟨rfl, fun _ => rfl⟩, rfl, fun _ => rfl⟩

/-- Settles O47: each body loads A with its bitwise result, in a state whose A and flags are still those
before the instruction. -/
theorem logicOnTheAccumulator : Obligations.LogicOnTheAccumulator := by
  intro b w
  refine ⟨fun f hf => ?_, fun f hf => ?_, fun f hf => ?_⟩
  · have hreads := andForms_reads f hf
    exact ⟨hreads.listed, fun s => hreads.completes rfl rfl⟩
  · have hreads := eorForms_reads f hf
    exact ⟨hreads.listed, fun s => hreads.completes rfl rfl⟩
  · have hreads := oraForms_reads f hf
    exact ⟨hreads.listed, fun s => hreads.completes rfl rfl⟩

/-! ## A byte counted up and down -/

/-- Counting up wraps from FF to 00 (R268, R269). -/
theorem add_one_eq_ofNat_mod (v : Byte) : v + 1 = BitVec.ofNat 8 ((v.toNat + 1) % 256) :=
  BitVec.eq_of_toNat_eq (by simp)

/-- Counting down adds 255 modulo 256, which takes 00 to FF (R265, R266). -/
theorem sub_one_eq_ofNat_mod (v : Byte) : v - 1 = BitVec.ofNat 8 ((v.toNat + 255) % 256) :=
  BitVec.eq_of_toNat_eq (by simp [BitVec.toNat_sub, Nat.add_comm])

/-! ## INX, INY, DEX, DEY -/

theorem inx_implies : Implies .inx 0xE8#8 fun t => t.loadX (t.x + 1) :=
  ⟨⟨rfl, fun _ => rfl⟩, fun _ => rfl, fun _ _ _ => rfl⟩

theorem iny_implies : Implies .iny 0xC8#8 fun t => t.loadY (t.y + 1) :=
  ⟨⟨rfl, fun _ => rfl⟩, fun _ => rfl, fun _ _ _ => rfl⟩

theorem dex_implies : Implies .dex 0xCA#8 fun t => t.loadX (t.x - 1) :=
  ⟨⟨rfl, fun _ => rfl⟩, fun _ => rfl, fun _ _ _ => rfl⟩

theorem dey_implies : Implies .dey 0x88#8 fun t => t.loadY (t.y - 1) :=
  ⟨⟨rfl, fun _ => rfl⟩, fun _ => rfl, fun _ _ _ => rfl⟩

/-- Settles O49: each is a one-byte instruction that loads its register with the byte counted up or down,
which is the count modulo 256. -/
theorem indexRegistersCount : Obligations.IndexRegistersCount := by
  refine ⟨inx_implies.listed, iny_implies.listed, dex_implies.listed, dey_implies.listed, fun s => ?_⟩
  rw [← add_one_eq_ofNat_mod s.x, ← add_one_eq_ofNat_mod s.y, ← sub_one_eq_ofNat_mod s.x,
    ← sub_one_eq_ofNat_mod s.y]
  exact ⟨inx_implies.completes s, iny_implies.completes s, dex_implies.completes s, dey_implies.completes s⟩

end Sys2Proof.Machine
end

section
/-! The flag instructions and NOP (47_named_only_stack_flag_system.md): one-byte instructions whose change
of the state is one flag, or none. -/

namespace Sys2Proof.Machine

/-! ## CLC, CLD, CLI, CLV -/

theorem clc_implies : Implies .clc 0x18#8 fun t => { t with p := { t.p with c := false } } :=
  ⟨⟨rfl, fun _ => rfl⟩, fun _ => rfl, fun _ _ _ => rfl⟩

theorem cld_implies : Implies .cld 0xD8#8 fun t => { t with p := { t.p with d := false } } :=
  ⟨⟨rfl, fun _ => rfl⟩, fun _ => rfl, fun _ _ _ => rfl⟩

theorem cli_implies : Implies .cli 0x58#8 fun t => { t with p := { t.p with i := false } } :=
  ⟨⟨rfl, fun _ => rfl⟩, fun _ => rfl, fun _ _ _ => rfl⟩

/-- V has a clearing instruction and no setting one (R288). -/
theorem clv_implies : Implies .clv 0xB8#8 fun t => { t with p := { t.p with v := false } } :=
  ⟨⟨rfl, fun _ => rfl⟩, fun _ => rfl, fun _ _ _ => rfl⟩

/-! ## SEC, SED, SEI -/

theorem sec_implies : Implies .sec 0x38#8 fun t => { t with p := { t.p with c := true } } :=
  ⟨⟨rfl, fun _ => rfl⟩, fun _ => rfl, fun _ _ _ => rfl⟩

theorem sed_implies : Implies .sed 0xF8#8 fun t => { t with p := { t.p with d := true } } :=
  ⟨⟨rfl, fun _ => rfl⟩, fun _ => rfl, fun _ _ _ => rfl⟩

theorem sei_implies : Implies .sei 0x78#8 fun t => { t with p := { t.p with i := true } } :=
  ⟨⟨rfl, fun _ => rfl⟩, fun _ => rfl, fun _ _ _ => rfl⟩

/-! ## NOP -/

/-- NOP's change is none, so that PC alone moves on (R292). -/
theorem nop_implies : Implies .nop 0xEA#8 fun t => t :=
  ⟨⟨rfl, fun _ => rfl⟩, fun _ => rfl, fun _ _ _ => rfl⟩

/-- Settles O51: each is a one-byte instruction, and moving PC on leaves every flag but its own as it
was. -/
theorem flagInstructionsAndNop : Obligations.FlagInstructionsAndNop :=
  ⟨clc_implies.listed, cld_implies.listed, cli_implies.listed, clv_implies.listed, sec_implies.listed,
    sed_implies.listed, sei_implies.listed, nop_implies.listed, fun s =>
    ⟨clc_implies.completes s, cld_implies.completes s, cli_implies.completes s, clv_implies.completes s,
      sec_implies.completes s, sed_implies.completes s, sei_implies.completes s, nop_implies.completes s⟩⟩

end Sys2Proof.Machine
end


section
/-! The encoder and the decoder undo each other, row by row of the opcode table (30_encoding.md). -/

namespace Sys2Proof

open Machine

/-! ## What a row makes of operand bytes -/

/-- The row makes the instruction of the operand bytes, an address low byte first (R81, R82). -/
inductive Build.Makes : Build → List Byte → Instr → Prop
  | implied (i : Instr) : Makes (.implied i) [] i
  | oneByte (f : Byte → Instr) (oper : Byte) : Makes (.oneByte f) [oper] (f oper)
  | twoBytes (f : Word → Instr) (oper : Word) : Makes (.twoBytes f) (wordBytes oper) (f oper)

theorem Build.Makes.length_eq {build : Build} {operands : List Byte} {i : Instr} (h : build.Makes operands i) :
    operands.length = build.operandBytes := by
  cases h <;> rfl

/-- The instructions that a row makes are encoded with its opcode, and have its mode. -/
theorem opcodeTable_encode : ∀ row ∈ opcodeTable, ∀ operands i, row.build.Makes operands i →
    encode i = row.opcode :: operands ∧ i.mode = row.mode := by
  intro row hrow operands i h
  fin_cases hrow <;> cases h <;> exact ⟨rfl, rfl⟩

set_option maxRecDepth 4000 in
/-- Every instruction is made by the row of its opcode byte. -/
theorem exists_row_makes (i : Instr) :
    ∃ op row operands, encode i = op :: operands ∧ rowOf op = some row ∧ row.build.Makes operands i := by
  cases i <;> exact ⟨_, _, _, rfl, rfl, by constructor⟩

/-! ## Decoding by the row -/

/-- What a row makes of operand bytes is decoded from them, whatever follows. -/
theorem decode_of_makes {op : Byte} {row : Row} {operands : List Byte} {i : Instr} (hrow : rowOf op = some row)
    (h : row.build.Makes operands i) (rest : List Byte) : decode (op :: operands ++ rest) = .ok (i, rest) := by
  obtain ⟨_, _, _, _, _, build⟩ := row
  cases h with
  | implied | oneByte => simp [decode, hrow]
  | twoBytes f oper => simp [decode, hrow, wordBytes]

/-- What is decoded is made by the row of the first byte, of the bytes before the rest. -/
theorem makes_of_decode {op : Byte} {row : Row} {bytes rest : List Byte} {i : Instr} (hrow : rowOf op = some row)
    (h : decode (op :: bytes) = .ok (i, rest)) :
    ∃ operands, row.build.Makes operands i ∧ bytes = operands ++ rest := by
  simp only [decode, hrow] at h
  split at h
  next j hbuild =>
    cases h
    exact ⟨[], by rw [hbuild]; exact .implied _, rfl⟩
  next f oper _ hbuild =>
    cases h
    exact ⟨[oper], by rw [hbuild]; exact .oneByte f oper, rfl⟩
  next f oper operHi _ hbuild =>
    cases h
    exact ⟨wordBytes (hiLo operHi oper), by rw [hbuild]; exact .twoBytes f _, by simp [wordBytes]⟩
  all_goals cases h

/-- Bytes that decode are an opcode, the operand bytes of which its row makes the instruction, and the rest. -/
theorem exists_makes_of_decode {bytes rest : List Byte} {i : Instr} (h : decode bytes = .ok (i, rest)) :
    ∃ op row operands, rowOf op = some row ∧ row.build.Makes operands i ∧ bytes = op :: operands ++ rest := by
  cases bytes with
  | nil => cases h
  | cons op tail =>
    cases hrow : rowOf op with
    | none => simp [decode, hrow] at h
    | some row =>
      obtain ⟨operands, hmakes, rfl⟩ := makes_of_decode hrow h
      exact ⟨op, row, operands, hrow, hmakes, rfl⟩

/-- Settles O13: an instruction's bytes are its row's opcode and the operand bytes it is made of. -/
theorem decodeOfEncode : Obligations.DecodeOfEncode := by
  intro i rest
  obtain ⟨op, row, operands, hencode, hrow, hmakes⟩ := exists_row_makes i
  rw [hencode]
  exact decode_of_makes hrow hmakes rest

/-- Settles O14: the row of the first byte makes the instruction of the bytes before the rest, and the
encoder spells out just those. -/
theorem encodeOfDecode : Obligations.EncodeOfDecode := by
  intro bytes rest i h
  obtain ⟨op, row, operands, hrow, hmakes, rfl⟩ := exists_makes_of_decode h
  obtain ⟨hmem, rfl⟩ := mem_opcodeTable_of_rowOf hrow
  rw [(opcodeTable_encode row hmem operands i hmakes).1]

set_option maxRecDepth 4000 in
/-- Settles O18: the decoder run on the nine words. -/
theorem spelledWordsDecode : Obligations.SpelledWordsDecode :=
  ⟨rfl, rfl, rfl, rfl, rfl, rfl, rfl, rfl, rfl⟩

end Sys2Proof
end


section
/-! The shapes of instruction: what the meaning of every instruction is put together from, said once,
so that a statement about every instruction is a case split on sixteen shapes. -/

namespace Sys2Proof.Machine

/-! ## The bodies of a shape, by mnemonic -/

/-- What a read instruction of the mnemonic does with its operand. -/
inductive ReadBody : Mnemonic → (Byte → State → Result) → Prop
  | adc : ReadBody .adc State.adc
  | sbc : ReadBody .sbc State.sbc
  | cmp : ReadBody .cmp State.cmp
  | cpx : ReadBody .cpx State.cpx
  | cpy : ReadBody .cpy State.cpy
  | bit : ReadBody .bit State.bit
  | lda : ReadBody .lda State.lda
  | ldx : ReadBody .ldx State.ldx
  | ldy : ReadBody .ldy State.ldy
  | and : ReadBody .and State.and
  | eor : ReadBody .eor State.eor
  | ora : ReadBody .ora State.ora

/-- The register a store of the mnemonic writes to memory. -/
inductive StoreReg : Mnemonic → (State → Byte) → Prop
  | sta : StoreReg .sta State.a
  | stx : StoreReg .stx State.x
  | sty : StoreReg .sty State.y

/-- The shift or rotate of the mnemonic, on the accumulator and on memory alike. -/
inductive ShiftOp : Mnemonic → (Byte → Flags → Byte × Flags) → Prop
  | asl : ShiftOp .asl asl
  | lsr : ShiftOp .lsr lsr
  | rol : ShiftOp .rol rol
  | ror : ShiftOp .ror ror

/-- What a read-modify-write instruction of the mnemonic does with the byte and the flags. -/
inductive ModifyOp : Mnemonic → (Byte → Flags → Byte × Flags) → Prop
  | shift {m : Mnemonic} {f : Byte → Flags → Byte × Flags} (h : ShiftOp m f) : ModifyOp m f
  | inc : ModifyOp .inc inc
  | dec : ModifyOp .dec dec

/-- The change a one-byte instruction of the mnemonic makes to the registers and the flags. -/
inductive ImpliedBody : Mnemonic → (State → State) → Prop
  | tax : ImpliedBody .tax fun t => t.loadX t.a
  | tay : ImpliedBody .tay fun t => t.loadY t.a
  | tsx : ImpliedBody .tsx fun t => t.loadX t.sp
  | txa : ImpliedBody .txa fun t => t.loadA t.x
  | txs : ImpliedBody .txs fun t => { t with sp := t.x }
  | tya : ImpliedBody .tya fun t => t.loadA t.y
  | inx : ImpliedBody .inx fun t => t.loadX (t.x + 1)
  | iny : ImpliedBody .iny fun t => t.loadY (t.y + 1)
  | dex : ImpliedBody .dex fun t => t.loadX (t.x - 1)
  | dey : ImpliedBody .dey fun t => t.loadY (t.y - 1)
  | clc : ImpliedBody .clc fun t => { t with p := { t.p with c := false } }
  | cld : ImpliedBody .cld fun t => { t with p := { t.p with d := false } }
  | cli : ImpliedBody .cli fun t => { t with p := { t.p with i := false } }
  | clv : ImpliedBody .clv fun t => { t with p := { t.p with v := false } }
  | sec : ImpliedBody .sec fun t => { t with p := { t.p with c := true } }
  | sed : ImpliedBody .sed fun t => { t with p := { t.p with d := true } }
  | sei : ImpliedBody .sei fun t => { t with p := { t.p with i := true } }
  | nop : ImpliedBody .nop fun t => t

/-- The flag a branch of the mnemonic tests, as it tests it. -/
inductive BranchCond : Mnemonic → (Flags → Bool) → Prop
  | bcc : BranchCond .bcc fun p => !p.c
  | bcs : BranchCond .bcs Flags.c
  | beq : BranchCond .beq Flags.z
  | bmi : BranchCond .bmi Flags.n
  | bne : BranchCond .bne fun p => !p.z
  | bpl : BranchCond .bpl fun p => !p.n
  | bvc : BranchCond .bvc fun p => !p.v
  | bvs : BranchCond .bvs Flags.v

/-! ## Where the operand is -/

/-- The addressing mode of an operand in memory. -/
def Mode.kind : Mode → AddrMode
  | .zp _ => .zp
  | .zpx _ => .zpx
  | .zpy _ => .zpy
  | .abs _ => .abs
  | .abx _ => .abx
  | .aby _ => .aby
  | .izx _ => .izx
  | .izy _ => .izy

/-- The addressing mode of an operand. -/
def Operand.kind : Operand → AddrMode
  | .imm _ => .imm
  | .mem m => m.kind

theorem Mode.length_eq (m : Mode) : m.length = m.kind.format.length := by cases m <;> rfl

theorem Operand.length_eq (o : Operand) : o.length = o.kind.format.length := by
  cases o with
  | imm => rfl
  | mem m => exact m.length_eq

/-- The cycles of a read instruction, but for a page crossing (R361, R362). -/
def Operand.cycles : Operand → Nat
  | .imm _ => 2
  | .mem (.zp _) => 3
  | .mem (.zpx _) | .mem (.zpy _) | .mem (.abs _) | .mem (.abx _) | .mem (.aby _) => 4
  | .mem (.izx _) => 6
  | .mem (.izy _) => 5

/-- The cycles of a store (R361, R362). -/
def Mode.storeCycles : Mode → Nat
  | .zp _ => 3
  | .zpx _ | .zpy _ | .abs _ => 4
  | .abx _ | .aby _ => 5
  | .izx _ | .izy _ => 6

/-! ## The sixteen shapes -/

/-- What an instruction is: a read, a store, a read-modify-write, a shift of A, a one-byte change of the
registers, a branch, or one of the ten that have a shape of their own; with its mode, its meaning and its cycles. -/
inductive Shaped (i : Instr) : Prop
  | read {body : Byte → State → Result} (o : Operand) (hbody : ReadBody i.mnemonic body) (hmode : i.mode = o.kind)
      (hexec : ∀ s, exec i s = readInstr o body s) (hcycles : ∀ s, cycles i s = o.cycles + bit (s.crosses o))
  | store {reg : State → Byte} (m : Mode) (hreg : StoreReg i.mnemonic reg) (hmode : i.mode = m.kind)
      (hexec : ∀ s, exec i s = storeInstr m (reg s) s) (hcycles : ∀ s, cycles i s = m.storeCycles)
  | modify {f : Byte → Flags → Byte × Flags} (m : Mode) (hop : ModifyOp i.mnemonic f) (hmode : i.mode = m.kind)
      (hexec : ∀ s, exec i s = modifyInstr m f s) (hcycles : ∀ s, cycles i s = m.storeCycles + 2)
  | accumulator {f : Byte → Flags → Byte × Flags} (hop : ShiftOp i.mnemonic f) (hmode : i.mode = .acc)
      (hexec : ∀ s, exec i s = accumulatorInstr f s) (hcycles : ∀ s, cycles i s = 2)
  | implied {body : State → State} (hbody : ImpliedBody i.mnemonic body) (hmode : i.mode = .imp)
      (hexec : ∀ s, exec i s = impliedInstr body s) (hcycles : ∀ s, cycles i s = 2)
  | branch {cond : Flags → Bool} (oper : Byte) (hcond : BranchCond i.mnemonic cond) (hmode : i.mode = .rel)
      (hexec : ∀ s, exec i s = branchInstr (cond s.p) oper s)
      (hcycles : ∀ s, cycles i s = 2 + branchCycles (cond s.p) oper s)
  | jmpAbs (oper : Word) (h : i = .jmpAbs oper)
  | jmpInd (oper : Word) (h : i = .jmpInd oper)
  | jsr (oper : Word) (h : i = .jsr oper)
  | rts (h : i = .rts)
  | rti (h : i = .rti)
  | pha (h : i = .pha)
  | php (h : i = .php)
  | pla (h : i = .pla)
  | plp (h : i = .plp)
  | brk (h : i = .brk)

theorem shaped : ∀ i : Instr, Shaped i
  | .adcImm b | .sbcImm b | .cmpImm b | .cpxImm b | .cpyImm b | .ldaImm b | .ldxImm b | .ldyImm b
  | .andImm b | .eorImm b | .oraImm b => .read (.imm b) (by constructor) rfl (fun _ => rfl) fun _ => rfl
  | .adcZp b | .sbcZp b | .cmpZp b | .cpxZp b | .cpyZp b | .bitZp b | .ldaZp b | .ldxZp b | .ldyZp b
  | .andZp b | .eorZp b | .oraZp b => .read (.mem (.zp b)) (by constructor) rfl (fun _ => rfl) fun _ => rfl
  | .adcZpx b | .sbcZpx b | .cmpZpx b | .ldaZpx b | .ldyZpx b | .andZpx b | .eorZpx b | .oraZpx b =>
    .read (.mem (.zpx b)) (by constructor) rfl (fun _ => rfl) fun _ => rfl
  | .ldxZpy b => .read (.mem (.zpy b)) (by constructor) rfl (fun _ => rfl) fun _ => rfl
  | .adcAbs w | .sbcAbs w | .cmpAbs w | .cpxAbs w | .cpyAbs w | .bitAbs w | .ldaAbs w | .ldxAbs w | .ldyAbs w
  | .andAbs w | .eorAbs w | .oraAbs w => .read (.mem (.abs w)) (by constructor) rfl (fun _ => rfl) fun _ => rfl
  | .adcAbx w | .sbcAbx w | .cmpAbx w | .ldaAbx w | .ldyAbx w | .andAbx w | .eorAbx w | .oraAbx w =>
    .read (.mem (.abx w)) (by constructor) rfl (fun _ => rfl) fun _ => rfl
  | .adcAby w | .sbcAby w | .cmpAby w | .ldaAby w | .ldxAby w | .andAby w | .eorAby w | .oraAby w =>
    .read (.mem (.aby w)) (by constructor) rfl (fun _ => rfl) fun _ => rfl
  | .adcIzx b | .sbcIzx b | .cmpIzx b | .ldaIzx b | .andIzx b | .eorIzx b | .oraIzx b =>
    .read (.mem (.izx b)) (by constructor) rfl (fun _ => rfl) fun _ => rfl
  | .adcIzy b | .sbcIzy b | .cmpIzy b | .ldaIzy b | .andIzy b | .eorIzy b | .oraIzy b =>
    .read (.mem (.izy b)) (by constructor) rfl (fun _ => rfl) fun _ => rfl
  | .staZp b | .stxZp b | .styZp b => .store (.zp b) (by constructor) rfl (fun _ => rfl) fun _ => rfl
  | .staZpx b | .styZpx b => .store (.zpx b) (by constructor) rfl (fun _ => rfl) fun _ => rfl
  | .stxZpy b => .store (.zpy b) (by constructor) rfl (fun _ => rfl) fun _ => rfl
  | .staAbs w | .stxAbs w | .styAbs w => .store (.abs w) (by constructor) rfl (fun _ => rfl) fun _ => rfl
  | .staAbx w => .store (.abx w) (by constructor) rfl (fun _ => rfl) fun _ => rfl
  | .staAby w => .store (.aby w) (by constructor) rfl (fun _ => rfl) fun _ => rfl
  | .staIzx b => .store (.izx b) (by constructor) rfl (fun _ => rfl) fun _ => rfl
  | .staIzy b => .store (.izy b) (by constructor) rfl (fun _ => rfl) fun _ => rfl
  | .aslZp b | .lsrZp b | .rolZp b | .rorZp b => .modify (.zp b) (.shift (by constructor)) rfl (fun _ => rfl) fun _ => rfl
  | .aslZpx b | .lsrZpx b | .rolZpx b | .rorZpx b => .modify (.zpx b) (.shift (by constructor)) rfl (fun _ => rfl) fun _ => rfl
  | .aslAbs w | .lsrAbs w | .rolAbs w | .rorAbs w => .modify (.abs w) (.shift (by constructor)) rfl (fun _ => rfl) fun _ => rfl
  | .aslAbx w | .lsrAbx w | .rolAbx w | .rorAbx w => .modify (.abx w) (.shift (by constructor)) rfl (fun _ => rfl) fun _ => rfl
  | .incZp b => .modify (.zp b) .inc rfl (fun _ => rfl) fun _ => rfl
  | .incZpx b => .modify (.zpx b) .inc rfl (fun _ => rfl) fun _ => rfl
  | .incAbs w => .modify (.abs w) .inc rfl (fun _ => rfl) fun _ => rfl
  | .incAbx w => .modify (.abx w) .inc rfl (fun _ => rfl) fun _ => rfl
  | .decZp b => .modify (.zp b) .dec rfl (fun _ => rfl) fun _ => rfl
  | .decZpx b => .modify (.zpx b) .dec rfl (fun _ => rfl) fun _ => rfl
  | .decAbs w => .modify (.abs w) .dec rfl (fun _ => rfl) fun _ => rfl
  | .decAbx w => .modify (.abx w) .dec rfl (fun _ => rfl) fun _ => rfl
  | .aslAcc | .lsrAcc | .rolAcc | .rorAcc => .accumulator (by constructor) rfl (fun _ => rfl) fun _ => rfl
  | .tax | .tay | .tsx | .txa | .txs | .tya | .inx | .iny | .dex | .dey | .clc | .cld | .cli | .clv | .sec | .sed
  | .sei | .nop => .implied (by constructor) rfl (fun _ => rfl) fun _ => rfl
  | .bcc b | .bcs b | .beq b | .bmi b | .bne b | .bpl b | .bvc b | .bvs b =>
    .branch b (by constructor) rfl (fun _ => rfl) fun _ => rfl
  | .jmpAbs w => .jmpAbs w rfl
  | .jmpInd w => .jmpInd w rfl
  | .jsr w => .jsr w rfl
  | .rts => .rts rfl
  | .rti => .rti rfl
  | .pha => .pha rfl
  | .php => .php rfl
  | .pla => .pla rfl
  | .plp => .plp rfl
  | .brk => .brk rfl

end Sys2Proof.Machine
end


section
/-! What an instruction writes to memory, byte by byte, and the stores, INC and DEC
(45_named_only_load_store_transfer.md, 46_named_only_logic_incdec.md). -/

namespace Sys2Proof.Machine

variable {s t u : State} {writes : List (Word × Byte)} {f : Form Mode} {reg : State → Byte}
  {op : Byte → Flags → Byte × Flags}

/-! ## The bytes written -/

theorem State.stored_nil (s : State) (there : Word) : s.stored [] there = s.byteAt there := rfl

theorem State.stored_append_singleton (s : State) (writes : List (Word × Byte)) (addr there : Word) (v : Byte) :
    s.stored (writes ++ [(addr, v)]) there =
      if addr = there ∧ s.kindAt there = .ram then v else s.stored writes there := by
  rw [State.stored, List.foldl_append]
  rfl

/-- On the platform of `s`, memory in `t` is that of `s` after the writes: at a device's address too the
model leaves Mem alone (R58, log 10). -/
structure Wrote (writes : List (Word × Byte)) (s t : State) : Prop where
  params_eq : t.params = s.params
  byteAt_eq : ∀ there, t.byteAt there = s.stored writes there

theorem Wrote.stored (h : Wrote writes s t) : Stored writes s t := fun there _ => h.byteAt_eq there

theorem Wrote.nil (hparams : t.params = s.params) (hmem : t.mem = s.mem) : Wrote [] s t :=
  ⟨hparams, fun there => State.byteAt_of_mem_eq hmem there⟩

theorem BusOnly.wrote (h : BusOnly s t) : Wrote [] s t := .nil h.params h.mem

/-- What only memory and the platform decide is as good of another state that has them. -/
theorem Wrote.congr (h : Wrote writes s t) (hparams : u.params = t.params) (hmem : u.mem = t.mem) :
    Wrote writes s u :=
  ⟨hparams.trans h.params_eq, fun there => (State.byteAt_of_mem_eq hmem there).trans (h.byteAt_eq there)⟩

/-- One more byte written (R58). -/
theorem Wrote.memWrite (h : Wrote writes s t) (addr : Word) (v : Byte) :
    Wrote (writes ++ [(addr, v)]) s (t.memWrite addr v) := by
  refine ⟨h.params_eq, fun there => ?_⟩
  rw [State.byteAt_memWrite, State.stored_append_singleton, State.kindAt_of_params_eq h.params_eq, h.byteAt_eq]
  by_cases hat : there = addr
  · subst hat; simp
  · simp [hat, Ne.symm hat]

theorem State.wrote_memWrite (s : State) (addr : Word) (v : Byte) : Wrote [(addr, v)] s (s.memWrite addr v) :=
  (BusOnly.refl s).wrote.memWrite addr v

/-- One write, by the address read rather than by the address written. -/
theorem State.stored_singleton (s : State) (addr there : Word) (v : Byte) :
    s.stored [(addr, v)] there = if there = addr ∧ s.kindAt addr = .ram then v else s.byteAt there := by
  rw [← (s.wrote_memWrite addr v).byteAt_eq, State.byteAt_memWrite]

/-- One more byte pushed (R62). -/
theorem Wrote.push (h : Wrote writes s t) (v : Byte) : Wrote (writes ++ [(stackAddr t.sp, v)]) s (t.push v) :=
  (h.memWrite (stackAddr t.sp) v).congr rfl rfl

/-- A read after the writes delivers what they left (R57). -/
theorem Wrote.peek_eq (h : Wrote writes s t) {addr : Word} (hback : s.answers addr = true) :
    t.peek addr = s.stored writes addr := by
  rw [← h.byteAt_eq, State.peek_of_backed]
  rwa [State.kindAt_of_params_eq h.params_eq]

/-! ## Stores -/

/-- The form is the table's, and its meaning is to store the register (R110). -/
structure Form.Stores (f : Form Mode) (reg : State → Byte) : Prop where
  listed : f.listed
  length_eq : f.instr.length = f.place.length
  exec_eq : ∀ s, exec f.instr s = storeInstr f.place (reg s) s

theorem staForms_stores {b : Byte} {w : Word} : ∀ f ∈ staForms b w, f.Stores State.a := by
  intro f hf
  fin_cases hf <;> exact ⟨⟨rfl, fun _ => rfl⟩, rfl, fun _ => rfl⟩

theorem stxForms_stores {b : Byte} {w : Word} : ∀ f ∈ stxForms b w, f.Stores State.x := by
  intro f hf
  fin_cases hf <;> exact ⟨⟨rfl, fun _ => rfl⟩, rfl, fun _ => rfl⟩

theorem styForms_stores {b : Byte} {w : Word} : ∀ f ∈ styForms b w, f.Stores State.y := by
  intro f hf
  fin_cases hf <;> exact ⟨⟨rfl, fun _ => rfl⟩, rfl, fun _ => rfl⟩

/-- A store writes the one byte at its target (R110, R230). -/
theorem Form.Stores.completes (h : f.Stores reg) (s : State) :
    CompletesStoring f.instr s { s with pc := s.pcn f.instr } [(s.target f.place, reg s)] := by
  refine ⟨_, (h.exec_eq s).trans (storeInstr_spec f.place (reg s) s), ?_, ((s.wrote_memWrite _ _).congr rfl rfl).stored⟩
  rw [State.pcn, h.length_eq]

/-- Settles O45: every form stores its register at its target. -/
theorem storesWriteOneByte : Obligations.StoresWriteOneByte := by
  intro b w
  refine ⟨fun f hf => ?_, fun f hf => ?_, fun f hf => ?_⟩
  · exact ⟨(staForms_stores f hf).listed, (staForms_stores f hf).completes⟩
  · exact ⟨(stxForms_stores f hf).listed, (stxForms_stores f hf).completes⟩
  · exact ⟨(styForms_stores f hf).listed, (styForms_stores f hf).completes⟩

/-! ## Read-modify-write instructions -/

/-- The form is the table's, and its meaning is to modify the byte by `op` (R110, R170). -/
structure Form.Modifies (f : Form Mode) (op : Byte → Flags → Byte × Flags) : Prop where
  listed : f.listed
  length_eq : f.instr.length = f.place.length
  exec_eq : ∀ s, exec f.instr s = modifyInstr f.place op s

theorem aslForms_modifies {b : Byte} {w : Word} : ∀ f ∈ aslForms b w, f.Modifies asl := by
  intro f hf
  fin_cases hf <;> exact ⟨⟨rfl, fun _ => rfl⟩, rfl, fun _ => rfl⟩

theorem lsrForms_modifies {b : Byte} {w : Word} : ∀ f ∈ lsrForms b w, f.Modifies lsr := by
  intro f hf
  fin_cases hf <;> exact ⟨⟨rfl, fun _ => rfl⟩, rfl, fun _ => rfl⟩

theorem rolForms_modifies {b : Byte} {w : Word} : ∀ f ∈ rolForms b w, f.Modifies rol := by
  intro f hf
  fin_cases hf <;> exact ⟨⟨rfl, fun _ => rfl⟩, rfl, fun _ => rfl⟩

theorem rorForms_modifies {b : Byte} {w : Word} : ∀ f ∈ rorForms b w, f.Modifies ror := by
  intro f hf
  fin_cases hf <;> exact ⟨⟨rfl, fun _ => rfl⟩, rfl, fun _ => rfl⟩

theorem incForms_modifies {b : Byte} {w : Word} : ∀ f ∈ incForms b w, f.Modifies inc := by
  intro f hf
  fin_cases hf <;> exact ⟨⟨rfl, fun _ => rfl⟩, rfl, fun _ => rfl⟩

theorem decForms_modifies {b : Byte} {w : Word} : ∀ f ∈ decForms b w, f.Modifies dec := by
  intro f hf
  fin_cases hf <;> exact ⟨⟨rfl, fun _ => rfl⟩, rfl, fun _ => rfl⟩

/-- A read-modify-write instruction leaves the modified byte at its target: the redundant write before
it is of the byte that stands there (R61, R175). -/
theorem Form.Modifies.completes (h : f.Modifies op) (s : State) :
    CompletesStoring f.instr s { s with pc := s.pcn f.instr, p := (op (s.modified f.place) s.p).2 }
      [(s.target f.place, (op (s.modified f.place) s.p).1)] := by
  obtain ⟨t, hexec, ht, hbytes⟩ := modifyInstr_spec f.place op s
  refine ⟨t, (h.exec_eq s).trans hexec, ?_, fun there _ => ?_⟩
  · rw [State.pcn, h.length_eq]
    exact ht
  · rw [hbytes there, State.stored_singleton]
    rfl

/-- Settles O48: the byte is counted up or down modulo 256. -/
theorem incAndDecMemory : Obligations.IncAndDecMemory := by
  intro b w
  refine ⟨fun f hf => ⟨(incForms_modifies f hf).listed, fun s => ?_⟩,
    fun f hf => ⟨(decForms_modifies f hf).listed, fun s => ?_⟩⟩
  · rw [← add_one_eq_ofNat_mod]
    exact (incForms_modifies f hf).completes s
  · rw [← sub_one_eq_ofNat_mod]
    exact (decForms_modifies f hf).completes s

end Sys2Proof.Machine
end


section
/-! ASL, LSR, ROL, ROR on the accumulator and on memory, and the two rotates as turns of nine bits
(42_shift_rotate.md). -/

namespace Sys2Proof.Machine

variable {i : Instr} {s t : State} {op : Byte → Flags → Byte × Flags}

/-! ## The result byte and the flags -/

/-- ASL in the rule's words: the byte doubled modulo 256, N the bit that moves into bit 7 (R171). -/
theorem asl_eq (v : Byte) (p : Flags) : asl v p =
    let r := BitVec.ofNat 8 (2 * v.toNat % 256)
    (r, { p with n := v.getLsbD 6, z := r == 0x00#8, c := v.getLsbD 7 }) := by
  have hr : v <<< 1 = BitVec.ofNat 8 (2 * v.toNat % 256) :=
    BitVec.eq_of_toNat_eq (by rw [show (v <<< 1).toNat = _ from toNat_asl v p]; simp)
  have hn : (v <<< 1).getLsbD 7 = v.getLsbD 6 := by simp
  rw [asl, shifted, Flags.setNZ, hn, hr]

/-- LSR in the rule's words: the byte halved, N always 0 (R172). -/
theorem lsr_eq (v : Byte) (p : Flags) : lsr v p =
    let r := BitVec.ofNat 8 (v.toNat / 2)
    (r, { p with n := false, z := r == 0x00#8, c := v.getLsbD 0 }) := by
  have hr : v >>> 1 = BitVec.ofNat 8 (v.toNat / 2) :=
    BitVec.eq_of_toNat_eq (by
      rw [show (v >>> 1).toNat = _ from toNat_lsr v p, BitVec.toNat_ofNat]
      omega)
  have hn : (v >>> 1).getLsbD 7 = false := by simp
  rw [lsr, shifted, Flags.setNZ, hn, hr]

/-- ROL in the rule's words: the byte doubled, the old C in bit 0 (R173). -/
theorem rol_eq (v : Byte) (p : Flags) : rol v p =
    let r := BitVec.ofNat 8 (2 * v.toNat % 256 + bit p.c)
    (r, { p with n := v.getLsbD 6, z := r == 0x00#8, c := v.getLsbD 7 }) := by
  have hr : (rol v p).1 = BitVec.ofNat 8 (2 * v.toNat % 256 + bit p.c) := by
    rw [← toNat_rol, BitVec.ofNat_toNat, BitVec.setWidth_eq]
  have hn : (rol v p).1.getLsbD 7 = v.getLsbD 6 := by
    cases hc : p.c <;> simp [rol, shifted, hc, bit]
  rw [← hr, ← hn]
  rfl

/-- ROR in the rule's words: the byte halved, the old C in bit 7, which is N (R174). -/
theorem ror_eq (v : Byte) (p : Flags) : ror v p =
    let r := BitVec.ofNat 8 (v.toNat / 2 + 128 * bit p.c)
    (r, { p with n := p.c, z := r == 0x00#8, c := v.getLsbD 0 }) := by
  have hr : (ror v p).1 = BitVec.ofNat 8 (v.toNat / 2 + 128 * bit p.c) := by
    rw [← toNat_ror, BitVec.ofNat_toNat, BitVec.setWidth_eq]
  have hn : (ror v p).1.getLsbD 7 = p.c := by
    cases hc : p.c <;> simp [ror, shifted, hc, bit]
  rw [← hr]
  conv_rhs => rw [← hn]
  rfl

/-! ## On the accumulator -/

/-- The instruction is the shift `op` of the accumulator, one byte and two cycles long (R112, R170). -/
structure ShiftsA (i : Instr) (opcode : Byte) (op : Byte → Flags → Byte × Flags) : Prop where
  listed : Listed i [opcode] 2
  pcn_eq : ∀ s : State, s.pcn i = s.pc + 1
  exec_eq : ∀ s, exec i s = accumulatorInstr op s

theorem aslAcc_shiftsA : ShiftsA .aslAcc 0x0A#8 asl := ⟨⟨rfl, fun _ => rfl⟩, fun _ => rfl, fun _ => rfl⟩

theorem lsrAcc_shiftsA : ShiftsA .lsrAcc 0x4A#8 lsr := ⟨⟨rfl, fun _ => rfl⟩, fun _ => rfl, fun _ => rfl⟩

theorem rolAcc_shiftsA : ShiftsA .rolAcc 0x2A#8 rol := ⟨⟨rfl, fun _ => rfl⟩, fun _ => rfl, fun _ => rfl⟩

theorem rorAcc_shiftsA : ShiftsA .rorAcc 0x6A#8 ror := ⟨⟨rfl, fun _ => rfl⟩, fun _ => rfl, fun _ => rfl⟩

theorem ShiftsA.completes {opcode : Byte} (h : ShiftsA i opcode op) (s : State) :
    Completes i s { s with pc := s.pcn i, a := (op s.a s.p).1, p := (op s.a s.p).2 } := by
  rw [h.pcn_eq, Completes, h.exec_eq]
  exact accumulatorInstr_spec op s

/-- Settles O33: the accumulator and the memory forms complete with ASL's and LSR's byte and flags, which
are those of the rules. -/
theorem aslAndLsr : Obligations.AslAndLsr := by
  refine ⟨aslAcc_shiftsA.listed, lsrAcc_shiftsA.listed, fun s => ?_, fun s => ?_, fun b w f hf => ?_,
    fun b w f hf => ?_⟩
  · have hdone := aslAcc_shiftsA.completes s
    rwa [asl_eq] at hdone
  · have hdone := lsrAcc_shiftsA.completes s
    rwa [lsr_eq] at hdone
  · have hmodifies := aslForms_modifies f hf
    refine ⟨hmodifies.listed, fun s => ?_⟩
    have hdone := hmodifies.completes s
    rwa [asl_eq] at hdone
  · have hmodifies := lsrForms_modifies f hf
    refine ⟨hmodifies.listed, fun s => ?_⟩
    have hdone := hmodifies.completes s
    rwa [lsr_eq] at hdone

/-- Settles O34: as for ASL and LSR, with the old C moved in. -/
theorem rolAndRor : Obligations.RolAndRor := by
  refine ⟨rolAcc_shiftsA.listed, rorAcc_shiftsA.listed, fun s => ?_, fun s => ?_, fun b w f hf => ?_,
    fun b w f hf => ?_⟩
  · have hdone := rolAcc_shiftsA.completes s
    rwa [rol_eq] at hdone
  · have hdone := rorAcc_shiftsA.completes s
    rwa [ror_eq] at hdone
  · have hmodifies := rolForms_modifies f hf
    refine ⟨hmodifies.listed, fun s => ?_⟩
    have hdone := hmodifies.completes s
    rwa [rol_eq] at hdone
  · have hmodifies := rorForms_modifies f hf
    refine ⟨hmodifies.listed, fun s => ?_⟩
    have hdone := hmodifies.completes s
    rwa [ror_eq] at hdone

/-! ## Nine bits in a ring -/

/-- The byte and C as nine bits in a ring, C above bit 7 (R173, R174). -/
def nineBits (v : Byte) (c : Bool) (k : Fin 9) : Bool := if k = 8 then c else v.getLsbD k

/-- The ring is all there is to know of the byte and C. -/
theorem nineBits_injective {v w : Byte} {c d : Bool} (h : nineBits v c = nineBits w d) : v = w ∧ c = d := by
  constructor
  · apply BitVec.eq_of_getLsbD_eq
    intro k hk
    have hne : (⟨k, by omega⟩ : Fin 9) ≠ 8 := Fin.ne_of_val_ne (by simp; omega)
    simpa [nineBits, hne] using congrFun h ⟨k, by omega⟩
  · simpa [nineBits] using congrFun h 8

/-- ROL turns the ring one place up (R173). -/
theorem nineBits_rol (v : Byte) (p : Flags) (k : Fin 9) : nineBits (rol v p).1 (rol v p).2.c k = nineBits v p.c (k - 1) := by
  have hlast : (-1 : Fin 9) = 8 := rfl
  cases hc : p.c <;> fin_cases k <;> simp [nineBits, rol, shifted, hc, bit, hlast]

/-- ROR turns the ring one place down (R174). -/
theorem nineBits_ror (v : Byte) (p : Flags) (k : Fin 9) : nineBits (ror v p).1 (ror v p).2.c k = nineBits v p.c (k + 1) := by
  cases hc : p.c <;> fin_cases k <;> simp [nineBits, ror, shifted, hc, bit]

/-- The accumulator and C of a state, as the ring. -/
def State.nineBits (s : State) : Fin 9 → Bool := Machine.nineBits s.a s.p.c

theorem nineBits_of_exec_rolAcc (h : exec .rolAcc s = .next t) (k : Fin 9) : t.nineBits k = s.nineBits (k - 1) := by
  obtain ⟨u, hexec, hu⟩ := rolAcc_shiftsA.completes s
  obtain rfl : t = u := by simpa [h] using hexec
  rw [State.nineBits, hu]
  exact nineBits_rol s.a s.p k

theorem nineBits_of_exec_rorAcc (h : exec .rorAcc s = .next t) (k : Fin 9) : t.nineBits k = s.nineBits (k + 1) := by
  obtain ⟨u, hexec, hu⟩ := rorAcc_shiftsA.completes s
  obtain rfl : t = u := by simpa [h] using hexec
  rw [State.nineBits, hu]
  exact nineBits_ror s.a s.p k

/-- Steps that each turn the ring by `d` turn it by `n • d` in all. -/
theorem nineBits_of_run {run : Nat → State} {d : Fin 9} :
    ∀ n : Nat, (∀ j < n, ∀ k, (run (j + 1)).nineBits k = (run j).nineBits (k + d)) →
      ∀ k, (run n).nineBits k = (run 0).nineBits (k + n • d)
  | 0, _, k => by simp
  | n + 1, h, k => by
    rw [h n (by omega), nineBits_of_run n fun j hj => h j (by omega)]
    rw [succ_nsmul, ← add_assoc, add_right_comm]

/-- Settles O35: the two rotates turn the ring of nine bits one place, in opposite senses, and nine turns
bring it round. -/
theorem rotatesUndoEachOther : Obligations.RotatesUndoEachOther := by
  refine ⟨fun s t u hrol hror => ?_, fun s t u hror hrol => ?_, fun i run hi hrun => ?_⟩
  · refine nineBits_injective (funext fun k => ?_)
    exact (nineBits_of_exec_rorAcc hror k).trans <| by rw [nineBits_of_exec_rolAcc hrol, add_sub_cancel_right]; rfl
  · refine nineBits_injective (funext fun k => ?_)
    exact (nineBits_of_exec_rolAcc hrol k).trans <| by rw [nineBits_of_exec_rorAcc hror, sub_add_cancel]; rfl
  · have hturn : ∃ d : Fin 9, ∀ j < 9, ∀ k, (run (j + 1)).nineBits k = (run j).nineBits (k + d) := by
      obtain rfl | rfl := hi
      · exact ⟨-1, fun j hj k => by rw [nineBits_of_exec_rolAcc (hrun j hj), sub_eq_add_neg]⟩
      · exact ⟨1, fun j hj k => nineBits_of_exec_rorAcc (hrun j hj) k⟩
    obtain ⟨d, hd⟩ := hturn
    refine nineBits_injective (funext fun k => ?_)
    have hround : ∀ d : Fin 9, 9 • d = 0 := by decide
    exact (nineBits_of_run 9 hd k).trans (by rw [hround, add_zero]; rfl)

end Sys2Proof.Machine
end


section
/-! The bus and the stack, the instructions that push and pull, and JSR (20_memory.md,
44_jump_subroutine.md, 47_named_only_stack_flag_system.md). -/

namespace Sys2Proof.Machine

variable {s t : State} {writes : List (Word × Byte)} {b : Byte}

/-! ## MemRead and MemWrite -/

/-- A device's or an unmapped address answers with a draw (R57, log 10). -/
theorem State.peek_of_not_backed {addr : Word} (h : backed (s.kindAt addr) = false) :
    s.peek addr = Config.freeByte s.draws := by
  simp [State.peek, h]

theorem State.mem_memWrite_of_not_ram {addr : Word} (v : Byte) (h : s.kindAt addr ≠ .ram) :
    (s.memWrite addr v).mem = s.mem := by
  simp [State.memWrite, h]

/-- Settles O10: a read by whether memory answers, a write by whether the address is RAM. -/
theorem accessesFollowTheMap : Obligations.AccessesFollowTheMap := by
  refine ⟨fun s addr => ⟨fun hkind => ?_, fun hkind => ?_, rfl⟩, fun s addr v => ⟨rfl, fun hram there => ?_, fun hkind => ?_⟩⟩
  · apply State.peek_of_backed
    obtain h | h := hkind <;> rw [h] <;> rfl
  · refine ⟨s.draws, State.peek_of_not_backed ?_⟩
    obtain h | ⟨id, h⟩ := hkind <;> rw [h] <;> rfl
  · simp [State.byteAt_memWrite, hram]
  · apply State.mem_memWrite_of_not_ram
    obtain h | h := hkind <;> simp [h]

/-! ## Push and Pull -/

theorem Byte.sub_one_sub_one (b : Byte) : b - 1 - 1 = b - 2 := by bv_omega

theorem Byte.sub_one_sub_one_sub_one (b : Byte) : b - 1 - 1 - 1 = b - 3 := by bv_omega

/-- The three pushes of an entry, with their bytes (R318). -/
theorem State.entered_bus (s : State) (ret : Word) (brk : Bool) :
    (s.entered ret brk).bus = s.bus ++ [.write (stackAddr s.sp) (hiByte ret),
      .write (stackAddr (s.sp - 1)) (loByte ret), .write (stackAddr (s.sp - 1 - 1)) (s.p.pack brk)] := by
  simp [State.entered, State.push, State.memWrite]

/-- Settles O11: each clause is the push's or the pull's own. -/
theorem pushAndPull : Obligations.PushAndPull := by
  intro s v
  refine ⟨?_, rfl, ((BusOnly.refl s).wrote.push v).stored, fun w brk => ?_, ?_, rfl, State.pull_fst_of_backed, rfl,
    fun hram => ⟨State.pull_push v hram, ?_⟩⟩
  · rw [State.push_sp, sub_one_eq_ofNat_mod, BitVec.toNat_ofNat]
    omega
  · rw [State.entered_bus, Byte.sub_one_sub_one]
    rfl
  · rw [State.pull_sp, add_one_eq_ofNat_mod, BitVec.toNat_ofNat]
    omega
  · rw [State.pull_sp, State.push_sp, sub_add_cancel]

/-! ## PHA, PHP, PLA, PLP -/

/-- A push right after the opcode, at `01:S` of the state before the instruction (R281, R282). -/
theorem State.push_implied (s : State) (v : Byte) :
    let t := s.implied.push v
    t = { s with pc := s.pc + 1, sp := s.sp - 1, mem := t.mem, bus := t.bus, draws := t.draws } ∧
      Wrote [(stackAddr s.sp, v)] s t := by
  have hwrote : Wrote [] s s.implied := .nil (by simp) (by simp)
  refine ⟨?_, by simpa using hwrote.push v⟩
  ext <;> simp

theorem exec_pha (s : State) : exec .pha s = .next (s.implied.push s.a) := by
  rw [← s.implied_a]
  rfl

theorem exec_php (s : State) : exec .php s = .next (s.implied.push (s.p.pack true)) := by
  rw [← s.implied_p]
  rfl

theorem completes_pha (s : State) :
    CompletesStoring .pha s { s with pc := s.pc + 1, sp := s.sp - 1 } [(stackAddr s.sp, s.a)] := by
  obtain ⟨ht, hwrote⟩ := s.push_implied s.a
  exact ⟨_, exec_pha s, ht, hwrote.stored⟩

theorem completes_php (s : State) :
    CompletesStoring .php s { s with pc := s.pc + 1, sp := s.sp - 1 } [(stackAddr s.sp, s.p.pack true)] := by
  obtain ⟨ht, hwrote⟩ := s.push_implied (s.p.pack true)
  exact ⟨_, exec_php s, ht, hwrote.stored⟩

/-- The byte that PHP pushes, as the sum of its bits, 5 and 4 among them (R282). -/
theorem Flags.pack_true_eq_ofNat (p : Flags) : p.pack true = BitVec.ofNat 8
    (0x30 + 128 * bit p.n + 64 * bit p.v + 8 * bit p.d + 4 * bit p.i + 2 * bit p.z + bit p.c) := by
  rw [← BitVec.setWidth_eq (p.pack true), ← BitVec.ofNat_toNat, Flags.toNat_pack, show bit true = 1 from rfl]
  congr 1
  omega

theorem exec_pla (s : State) : exec .pla s = .next (s.beforePull.pull.2.loadA s.beforePull.pull.1) := rfl

theorem exec_plp (s : State) :
    exec .plp s = .next { s.beforePull.pull.2 with p := Flags.unpack s.beforePull.pull.1 } := rfl

theorem completes_pla (s : State) : ∃ v, s.Delivers (stackAddr (s.sp + 1)) v ∧
    Completes .pla s { s with pc := s.pc + 1, sp := s.sp + 1, a := v, p := s.p.setNZ v } := by
  have hpulled := s.pulled_beforePull.pull
  refine ⟨_, s.pulled_beforePull.delivers, _, exec_pla s, ?_⟩
  rw [hpulled]
  rfl

theorem completes_plp (s : State) : ∃ v, s.Delivers (stackAddr (s.sp + 1)) v ∧
    Completes .plp s { s with pc := s.pc + 1, sp := s.sp + 1, p := Flags.unpack v } :=
  ⟨_, s.pulled_beforePull.delivers, _, exec_plp s, s.pulled_beforePull.pull.setP _⟩

/-- Settles O50: the completion of each of the four, with the table's bytes and cycles. -/
theorem stackInstructions : Obligations.StackInstructions := by
  refine ⟨⟨rfl, fun _ => rfl⟩, ⟨rfl, fun _ => rfl⟩, ⟨rfl, fun _ => rfl⟩, ⟨rfl, fun _ => rfl⟩, fun s => ?_⟩
  rw [← Flags.pack_true_eq_ofNat]
  exact ⟨completes_pha s, completes_php s, completes_pla s, completes_plp s⟩

/-! ## JSR -/

/-- The return address that JSR pushes, high byte first (R212). -/
def State.returnWrites (s : State) : List (Word × Byte) :=
  [(stackAddr s.sp, hiByte (s.pc + 2)), (stackAddr (s.sp - 1), loByte (s.pc + 2))]

/-- JSR reads the high byte of its target from memory as its own pushes left it (R64, R212). -/
theorem completes_jsr (w : Word) (s : State) :
    ∃ hi, (s.answers (s.pc + 2) = true → hi = s.stored s.returnWrites (s.pc + 2)) ∧
      CompletesStoring (.jsr w) s { s with sp := s.sp - 2, pc := hiLo hi (loByte w) } s.returnWrites := by
  have hnone : Wrote [] s ((s.advance 3).dummyRead (stackAddr s.sp)) := .nil (by simp) (by simp)
  have hwrote := (hnone.push (hiByte (s.pc + 2))).push (loByte (s.pc + 2))
  simp only [State.push_sp, State.dummyRead_sp, State.advance_sp] at hwrote
  refine ⟨_, hwrote.peek_eq, _, exec_jsr w s, ?_, (hwrote.congr rfl rfl).stored⟩
  rw [← Byte.sub_one_sub_one]
  ext <;> simp

/-- Settles O40: the completion of JSR, with the table's bytes and cycles. -/
theorem jsrPushesAndJumps : Obligations.JsrPushesAndJumps :=
  fun w => ⟨⟨rfl, fun _ => rfl⟩, completes_jsr w⟩

end Sys2Proof.Machine
end


section
/-! BRK, the interrupts and RESET: the entry they share, the inputs, and the boundary at which they are
taken (47_named_only_stack_flag_system.md, 60_exceptions.md, 70_reset_and_hazards.md). -/

namespace Sys2Proof.Machine

variable {s t r : State} {vec w : Word} {brk : Bool}

/-! ## An interrupt entry -/

/-- What an entry pushes: the return address, high byte first, and P as it was (R318). -/
def State.entryWrites (s : State) (ret : Word) (brk : Bool) : List (Word × Byte) :=
  [(stackAddr s.sp, hiByte ret), (stackAddr (s.sp - 1), loByte ret), (stackAddr (s.sp - 2), s.p.pack brk)]

theorem State.entered_wrote (s : State) (ret : Word) (brk : Bool) :
    Wrote (s.entryWrites ret brk) s (s.entered ret brk) := by
  have hwrote := (((BusOnly.refl s).wrote.push (hiByte ret)).push (loByte ret)).push (s.p.pack brk)
  simp only [State.push_sp, Byte.sub_one_sub_one] at hwrote
  exact hwrote.congr rfl rfl

/-- The pushes reach page one alone (R52). -/
theorem State.byteAt_entered_of_page (s : State) (ret : Word) (brk : Bool) {addr : Word}
    (h : hiByte addr ≠ stackPage) : (s.entered ret brk).byteAt addr = s.byteAt addr := by
  have hne : ∀ b, addr ≠ stackAddr b := fun b hb => h (by rw [hb, stackAddr, hiByte_hiLo])
  simp [State.byteAt_entered, hne]

/-- Outside page one, what an address delivers is not changed by the pushes. -/
theorem State.delivers_of_entered {ret addr : Word} {v : Byte} (h : hiByte addr ≠ stackPage)
    (hdelivers : (s.entered ret brk).Delivers addr v) : s.Delivers addr v := by
  intro hanswers
  rw [hdelivers (by simpa [State.answers] using hanswers), State.byteAt_entered_of_page _ _ _ h]

/-- Going through a vector reads its two bytes, low byte first, and writes PC alone (R318). -/
theorem State.jumpThrough_delivers (s : State) (vec : Word) :
    ∃ lo hi, s.Delivers vec lo ∧ s.Delivers (vec + 1) hi ∧ BusOnly { s with pc := hiLo hi lo } (s.jumpThrough vec) :=
  ⟨_, _, s.delivers_peek vec, (State.delivers_congr rfl rfl _ _).1 ((s.noteRead vec).delivers_peek (vec + 1)), rfl⟩

/-- `t` is an entry from `s` through the vector: PC and P pushed, S lower by 3, I set, PC the word at the
vector, and every other field but the history and the count of free values as before (R318). -/
def EntersThrough (s : State) (ret : Word) (brk : Bool) (vec : Word) (t : State) : Prop :=
  ∃ lo hi, s.Delivers vec lo ∧ s.Delivers (vec + 1) hi ∧ Wrote (s.entryWrites ret brk) s t ∧
    t = { s with
      sp := s.sp - 3, p := { s.p with i := true }, pc := hiLo hi lo, mem := t.mem, bus := t.bus, draws := t.draws }

/-- The vector is read after the pushes, which do not reach it when it is not in page one. -/
theorem State.enterInterrupt_entersThrough (s : State) (ret : Word) (brk : Bool) {vec : Word}
    (hlo : hiByte vec ≠ stackPage) (hhi : hiByte (vec + 1) ≠ stackPage) :
    EntersThrough s ret brk vec (s.enterInterrupt ret brk vec) := by
  obtain ⟨lo, hi, hdlo, hdhi, ht⟩ := (s.entered ret brk).jumpThrough_delivers vec
  refine ⟨lo, hi, State.delivers_of_entered hlo hdlo, State.delivers_of_entered hhi hdhi,
    (s.entered_wrote ret brk).congr rfl rfl, ?_⟩
  rw [← Byte.sub_one_sub_one_sub_one, show hiLo hi lo = ((s.entered ret brk).jumpThrough vec).pc from ht.pc.symm]
  exact s.enterInterrupt_spec ret brk vec

/-- The accesses made before an entry, and a write of PC, change nothing that it saves. -/
theorem EntersThrough.of_busOnly {ret : Word} (h : EntersThrough r ret brk vec t)
    (hr : BusOnly { s with pc := w } r) : EntersThrough s ret brk vec t := by
  obtain ⟨lo, hi, hlo, hhi, hwrote, ht⟩ := h
  rw [hr] at hlo hhi hwrote ht
  exact ⟨lo, hi, hlo, hhi, ⟨hwrote.params_eq, hwrote.byteAt_eq⟩, ht⟩

/-! ## BRK -/

theorem exec_brk (s : State) : exec .brk s = .next (s.implied.enterInterrupt (s.pc + 2) true irqVector) := rfl

theorem brk_entersThrough (s : State) :
    EntersThrough s (s.pc + 2) true irqVector (s.implied.enterInterrupt (s.pc + 2) true irqVector) :=
  (s.implied.enterInterrupt_entersThrough _ _ (by decide) (by decide)).of_busOnly s.implied_busOnly

theorem completes_brk (s : State) : ∃ lo hi, s.Delivers irqVector lo ∧ s.Delivers (irqVector + 1) hi ∧
    CompletesStoring .brk s { s with sp := s.sp - 3, p := { s.p with i := true }, pc := hiLo hi lo }
      (s.entryWrites (s.pc + 2) true) := by
  obtain ⟨lo, hi, hlo, hhi, hwrote, ht⟩ := brk_entersThrough s
  exact ⟨lo, hi, hlo, hhi, _, exec_brk s, ht, hwrote.stored⟩

/-- Settles O52: the completion of BRK, with the table's bytes and cycles. -/
theorem brkEntersTheHandler : Obligations.BrkEntersTheHandler :=
  ⟨⟨rfl, fun _ => rfl⟩, completes_brk⟩

/-! ## The inputs -/

/-- Settles O55: an edge of NMI is a change of its line from released to asserted. -/
theorem nmiIsLatchedIrqIsALevel : Obligations.NmiIsLatchedIrqIsALevel := by
  refine fun s => ⟨fun hline => ?_, fun hline => ?_, ?_, fun level => rfl⟩
  · simp [State.applyPin, hline]
  · rw [State.applyPin, ← hline]
    simp
  · simp [State.applyPin]

/-! ## The boundary -/

/-- Where the platform lets every access run, the step is what happens at the boundary (R59). -/
theorem step_of_atBoundary (hany : s.params.unmappedAccess = .anyValue)
    (h : s.sample.atBoundary s.boundary.takeIrq = .next t) (hparams : t.params = s.sample.params) :
    step s = .next t := by
  have hfree : t.stuckAt = none := State.stuckAt_anyValue (by rw [hparams, s.sample_params, hany])
  rw [step, h, rejectUnmapped, State.finish, hfree]

theorem takeNmi_entersThrough (s : State) : ∃ t, EntersThrough s s.pc false nmiVector t ∧
    s.takeNmi = { t with nmiPending := false } := by
  have hread := s.discardedFetches_busOnly
  refine ⟨_, ?_, rfl⟩
  rw [hread.pc]
  exact (State.enterInterrupt_entersThrough _ _ _ (by decide) (by decide)).of_busOnly (w := s.pc) hread

theorem takeIrq_entersThrough (s : State) : EntersThrough s s.pc false irqVector s.takeIrq :=
  (State.enterInterrupt_entersThrough _ _ _ (by decide) (by decide)).of_busOnly (w := s.pc) s.discardedFetches_busOnly

/-- Settles O53: at a boundary without reset, NMI and then IRQ are entered, and the entry is that of
`EntersThrough`. -/
theorem interruptsAreTakenByPriority : Obligations.InterruptsAreTakenByPriority := by
  intro s hany u writes hline hreset
  refine ⟨fun hnmi => ?_, fun hnmi hirq hmask hchoice => ?_⟩
  · obtain ⟨t, ⟨lo, hi, hlo, hhi, hwrote, ht⟩, htaken⟩ := takeNmi_entersThrough u
    have hboundary : u.atBoundary s.boundary.takeIrq = .next u.takeNmi := by
      simp [State.atBoundary, hline, hreset, hnmi]
    refine ⟨u.takeNmi, lo, hi, step_of_atBoundary hany hboundary (by rw [htaken]; exact hwrote.params_eq), hlo, hhi, ?_, ?_⟩
    · rw [htaken]
      exact (hwrote.congr rfl rfl).stored
    · rw [htaken, ht]
  · obtain ⟨lo, hi, hlo, hhi, hwrote, ht⟩ := takeIrq_entersThrough u
    have hboundary : u.atBoundary s.boundary.takeIrq = .next u.takeIrq := by
      simp [State.atBoundary, State.irqTaken, hline, hreset, hnmi, hirq, hmask, hchoice]
    exact ⟨u.takeIrq, lo, hi, step_of_atBoundary hany hboundary hwrote.params_eq, hlo, hhi, hwrote.stored, ht⟩

/-! ## RESET -/

/-- The reads before the reset vector is fetched change nothing but the history and the count of free
values (R351). -/
theorem State.resetSequence_eq (s : State) : ∃ bus draws, s.resetSequence = { s with
    sp := s.sp - 3, p := { s.p with i := true }, nmiPending := false, resetPending := false
    bus := bus, draws := draws }.jumpThrough resetVector := by
  let t := (s.dummyRead s.pc).dummyRead s.pc
  let u := ((t.dummyRead (stackAddr t.sp)).dummyRead (stackAddr (t.sp - 1))).dummyRead (stackAddr (t.sp - 2))
  have hu : BusOnly s u :=
    ((s.discardedFetches_busOnly.trans (t.dummyRead_busOnly _)).trans (State.dummyRead_busOnly _ _)).trans
      (State.dummyRead_busOnly _ _)
  have hsequence : s.resetSequence = { u with
      sp := u.sp - 3, p := { u.p with i := true }, nmiPending := false, resetPending := false }.jumpThrough
        resetVector := rfl
  exact ⟨u.bus, u.draws, by rw [hsequence, hu]⟩

/-- The reset sequence writes no memory, so that the vector is the one that stood there before (R351). -/
theorem State.resetSequence_spec (s : State) :
    ∃ lo hi, s.Delivers resetVector lo ∧ s.Delivers (resetVector + 1) hi ∧ s.resetSequence = { s with
      sp := s.sp - 3, p := { s.p with i := true }, pc := hiLo hi lo, nmiPending := false, resetPending := false
      bus := s.resetSequence.bus, draws := s.resetSequence.draws } := by
  obtain ⟨bus, draws, hsequence⟩ := s.resetSequence_eq
  obtain ⟨lo, hi, hlo, hhi, ht⟩ := State.jumpThrough_delivers { s with
    sp := s.sp - 3, p := { s.p with i := true }, nmiPending := false, resetPending := false
    bus := bus, draws := draws } resetVector
  rw [← hsequence] at ht
  exact ⟨lo, hi, hlo, hhi, ht⟩

/-- Settles O56: a held RESET is the first test at a boundary, a released one the second. -/
theorem resetOverridesEverything : Obligations.ResetOverridesEverything := by
  intro s hany u
  refine ⟨fun hline => ?_, fun hline hreset => ?_, fun hline => ?_⟩
  · exact step_of_atBoundary hany (by simp [u, State.atBoundary, hline]) rfl
  · obtain ⟨lo, hi, hlo, hhi, hsequence⟩ := u.resetSequence_spec
    have hboundary : u.atBoundary s.boundary.takeIrq = .next u.resetSequence := by
      simp [State.atBoundary, hline, hreset]
    exact ⟨_, lo, hi, step_of_atBoundary hany hboundary (by rw [hsequence]), hlo, hhi, hsequence⟩
  · simp [State.applyPin, hline]

/-- Settles O5: the word at FFFC of an empty memory is 0000. -/
theorem resetSetsMaskAndVector : Obligations.ResetSetsMaskAndVector := ⟨rfl, rfl, rfl⟩

/-- Settles O6: an empty memory is canonical, and RESET is not held. -/
theorem resetMeetsInvariant : Obligations.ResetMeetsInvariant := rfl

end Sys2Proof.Machine
end


section
/-! The frame of every instruction and of every step: which fields it may change, by mnemonic and mode,
and that memory changes in RAM alone and stays in canonical form (10_state.md, 20_memory.md). -/

namespace Sys2Proof.Machine

variable {s t u : State} {m : Mnemonic} {k : AddrMode} {i : Instr}

/-! ## What a mnemonic may change -/

/-- `t` differs from `s` in no field that an instruction of the mnemonic, in the mode, leaves alone. -/
structure Writes (m : Mnemonic) (k : AddrMode) (s t : State) : Prop where
  flagV : m ∉ [.adc, .sbc, .bit, .clv, .plp, .rti] → t.p.v = s.p.v
  flagD : m ∉ [.sed, .cld, .plp, .rti] → t.p.d = s.p.d
  flagI : m ∉ [.sei, .cli, .brk, .plp, .rti] → t.p.i = s.p.i
  flagC : m ∉ [.adc, .sbc, .cmp, .cpx, .cpy, .asl, .lsr, .rol, .ror, .clc, .sec, .plp, .rti] → t.p.c = s.p.c
  flagsNZ : m ∉ [.adc, .sbc, .cmp, .cpx, .cpy, .bit, .asl, .lsr, .rol, .ror, .and, .eor, .ora, .inc, .inx, .iny,
    .dec, .dex, .dey, .lda, .ldx, .ldy, .pla, .tax, .tay, .tsx, .txa, .tya, .plp, .rti] → t.p.n = s.p.n ∧ t.p.z = s.p.z
  regA : m ∉ [.adc, .sbc, .asl, .lsr, .rol, .ror, .and, .eor, .ora, .lda, .pla, .txa, .tya] → t.a = s.a
  regAOfMemory : m ∈ [.asl, .lsr, .rol, .ror] → k ≠ .acc → t.a = s.a
  regX : m ∉ [.ldx, .tax, .tsx, .inx, .dex] → t.x = s.x
  regY : m ∉ [.ldy, .tay, .iny, .dey] → t.y = s.y
  regS : m ∉ [.jsr, .rts, .rti, .pha, .php, .pla, .plp, .brk, .txs] → t.sp = s.sp
  regPc : k ≠ .rel → m ∉ [.jmp, .jsr, .rts, .rti, .brk] → t.pc = s.pc
  memory : m ∉ [.sta, .stx, .sty, .asl, .lsr, .rol, .ror, .inc, .dec, .jsr, .pha, .php, .brk] ∨ k = .acc → t.mem = s.mem
  nmiPending : t.nmiPending = s.nmiPending
  irqLine : t.irqLine = s.irqLine
  nmiLine : t.nmiLine = s.nmiLine
  resetLine : t.resetLine = s.resetLine
  resetPending : t.resetPending = s.resetPending
  schedule : t.schedule = s.schedule
  params : t.params = s.params

theorem Writes.trans (h : Writes m k s t) (h' : Writes m k t u) : Writes m k s u where
  flagV hm := (h'.flagV hm).trans (h.flagV hm)
  flagD hm := (h'.flagD hm).trans (h.flagD hm)
  flagI hm := (h'.flagI hm).trans (h.flagI hm)
  flagC hm := (h'.flagC hm).trans (h.flagC hm)
  flagsNZ hm := ⟨(h'.flagsNZ hm).1.trans (h.flagsNZ hm).1, (h'.flagsNZ hm).2.trans (h.flagsNZ hm).2⟩
  regA hm := (h'.regA hm).trans (h.regA hm)
  regAOfMemory hm hk := (h'.regAOfMemory hm hk).trans (h.regAOfMemory hm hk)
  regX hm := (h'.regX hm).trans (h.regX hm)
  regY hm := (h'.regY hm).trans (h.regY hm)
  regS hm := (h'.regS hm).trans (h.regS hm)
  regPc hk hm := (h'.regPc hk hm).trans (h.regPc hk hm)
  memory hm := (h'.memory hm).trans (h.memory hm)
  nmiPending := h'.nmiPending.trans h.nmiPending
  irqLine := h'.irqLine.trans h.irqLine
  nmiLine := h'.nmiLine.trans h.nmiLine
  resetLine := h'.resetLine.trans h.resetLine
  resetPending := h'.resetPending.trans h.resetPending
  schedule := h'.schedule.trans h.schedule
  params := h'.params.trans h.params

/-- The history and the count of free values are in no mnemonic's frame. -/
theorem BusOnly.writes (h : BusOnly s t) : Writes m k s t := by
  rw [h]
  constructor <;> intros <;> simp

/-- A mnemonic that writes memory, and not the accumulator form of one. -/
def WritesMemory (m : Mnemonic) (k : AddrMode) : Prop :=
  m ∈ [Mnemonic.sta, .stx, .sty, .asl, .lsr, .rol, .ror, .inc, .dec, .jsr, .pha, .php, .brk] ∧ k ≠ .acc

theorem WritesMemory.writes (h : WritesMemory m k) (s : State) (mem : Memory) : Writes m k s { s with mem := mem } := by
  obtain ⟨hm, hk⟩ := h
  constructor
  case memory => exact fun hnot => absurd hnot (by simp [hm, hk])
  all_goals intros; simp

theorem WritesMemory.memWrite (h : WritesMemory m k) (s : State) (addr : Word) (v : Byte) :
    Writes m k s (s.memWrite addr v) :=
  (h.writes s (s.memWrite addr v).mem).trans (BusOnly.writes rfl)

theorem WritesMemory.dummyWrite (h : WritesMemory m k) (s : State) (addr : Word) (v : Byte) :
    Writes m k s (s.dummyWrite addr v) := by
  unfold State.dummyWrite
  split
  · exact h.memWrite s addr v
  · exact (BusOnly.refl s).writes

/-! ## The frame of each body -/

theorem State.refuse_ne_next (s t : State) (r : Refusal) : s.refuse r ≠ .next t := by
  unfold State.refuse
  split <;> simp

/-- Whatever the parameters make of a decimal result, it is a result that is written (R142, R144). -/
theorem State.exists_writeDecimal_eq (s : State) (r : Arith) :
    ∃ r', s.writeDecimal r = { s.writeArith r' with draws := (s.writeDecimal r).draws } := by
  unfold State.writeDecimal
  split
  · exact ⟨r, rfl⟩
  · exact ⟨_, rfl⟩

/-- Decimal arithmetic that goes on writes a result (R142, R144). -/
theorem State.decimalArith_next {g : Byte → Byte → Bool → Arith} {v : Byte} (h : s.decimalArith g v = .next t) :
    ∃ r, t = { s.writeArith r with draws := t.draws } := by
  by_cases hadmits : s.AdmitsDecimal v
  · rw [State.decimalArith_of_admits hadmits] at h
    cases h
    exact s.exists_writeDecimal_eq _
  · rw [State.AdmitsDecimal, not_or] at hadmits
    rw [State.decimalArith, if_neg (by simpa using hadmits.1)] at h
    split at h
    next hnmos => exact absurd hnmos hadmits.2
    next => exact absurd h (s.refuse_ne_next t _)

/-- ADC that goes on writes A and the four flags of a result (R141, R142). -/
theorem State.adc_next {v : Byte} (h : s.adc v = .next t) : ∃ r, t = { s.writeArith r with draws := t.draws } := by
  cases hd : s.p.d
  · rw [State.adc_of_binary hd] at h
    cases h
    exact ⟨addBinary s.a v s.p.c, rfl⟩
  · rw [State.adc_of_decimal hd] at h
    exact State.decimalArith_next h

/-- SBC that goes on writes A and the four flags of a result (R143, R144). -/
theorem State.sbc_next {v : Byte} (h : s.sbc v = .next t) : ∃ r, t = { s.writeArith r with draws := t.draws } := by
  cases hd : s.p.d
  · rw [State.sbc_of_binary hd] at h
    cases h
    exact ⟨subBinary s.a v s.p.c, rfl⟩
  · rw [State.sbc_of_decimal hd] at h
    exact State.decimalArith_next h

theorem State.writeArith_writes {r : Arith} (h : m = .adc ∨ m = .sbc) : Writes m k s (s.writeArith r) := by
  obtain rfl | rfl := h
  all_goals constructor <;> simp [State.writeArith]

theorem ReadBody.writes {body : Byte → State → Result} {v : Byte} (hbody : ReadBody m body)
    (hrun : body v s = .next t) : Writes m k s t := by
  cases hbody
  case adc =>
    obtain ⟨r, h⟩ := State.adc_next hrun
    have hbus : BusOnly (s.writeArith r) t := by rw [h]; rfl
    exact (State.writeArith_writes (.inl rfl)).trans hbus.writes
  case sbc =>
    obtain ⟨r, h⟩ := State.sbc_next hrun
    have hbus : BusOnly (s.writeArith r) t := by rw [h]; rfl
    exact (State.writeArith_writes (.inr rfl)).trans hbus.writes
  all_goals
    cases hrun
    constructor <;> simp [Flags.compare, Flags.bitTest]

theorem ModifyOp.writes {f : Byte → Flags → Byte × Flags} (hop : ModifyOp m f) (v : Byte) (s : State) :
    Writes m k s { s with p := (f v s.p).2 } := by
  cases hop
  case shift hop =>
    cases hop
    all_goals constructor <;> simp [Machine.asl, Machine.lsr, Machine.rol, Machine.ror, shifted]
  all_goals constructor <;> simp [Machine.inc, Machine.dec]

theorem ModifyOp.writesMemory {f : Byte → Flags → Byte × Flags} (hop : ModifyOp m f) (hk : k ≠ .acc) :
    WritesMemory m k := by
  refine ⟨?_, hk⟩
  cases hop
  case shift hop => cases hop <;> simp
  all_goals simp

theorem ShiftOp.writes {f : Byte → Flags → Byte × Flags} (hop : ShiftOp m f) (v : Byte) (s : State) :
    Writes m .acc s { s with a := v, p := (f s.a s.p).2 } := by
  cases hop
  all_goals constructor <;> simp [Machine.asl, Machine.lsr, Machine.rol, Machine.ror, shifted]

theorem StoreReg.writesMemory {reg : State → Byte} (hreg : StoreReg m reg) (hk : k ≠ .acc) : WritesMemory m k := by
  refine ⟨?_, hk⟩
  cases hreg <;> simp

theorem ImpliedBody.writes {body : State → State} (hbody : ImpliedBody m body) (s : State) :
    Writes m k s (body s) := by
  cases hbody
  all_goals constructor <;> simp

/-- A branch may put PC anywhere. -/
theorem writes_pc_of_rel (s : State) (n : Nat) (w : Word) : Writes m .rel (s.advance n) { s with pc := w } := by
  constructor <;> simp

/-! ## The frame of an instruction -/

theorem Mode.kind_ne_acc (mode : Mode) : mode.kind ≠ .acc := by cases mode <;> simp [Mode.kind]

/-- A completed instruction is framed as the state it completes in. -/
theorem Completes.writes (h : Completes i s u) (hrun : exec i s = .next t) {n : Nat}
    (hu : Writes m k (s.advance n) u) : Writes m k (s.advance n) t := by
  obtain ⟨t', hexec, ht⟩ := h
  obtain rfl : t = t' := by simpa [hrun] using hexec
  exact hu.trans (BusOnly.writes ht)

/-- A completed store is framed as the state it completes in, but for memory. -/
theorem CompletesStoring.writes {bytes : List (Word × Byte)} (h : CompletesStoring i s u bytes)
    (hrun : exec i s = .next t) {n : Nat} (hm : WritesMemory m k) (hu : Writes m k (s.advance n) u) :
    Writes m k (s.advance n) t := by
  obtain ⟨t', hexec, ht, _⟩ := h
  obtain rfl : t = t' := by simpa [hrun] using hexec
  exact (hu.trans (hm.writes u t.mem)).trans (BusOnly.writes ht)

/-- An instruction moves PC on past its bytes, and then changes what its mnemonic and mode may change. -/
theorem exec_writes (hrun : exec i s = .next t) : Writes i.mnemonic i.mode (s.advance i.length) t := by
  have hlength {n : Nat} (h : i.mode.format.length = n) : s.advance i.length = s.advance n := by rw [← h]; rfl
  cases shaped i with
  | read o hbody hmode hexec =>
    rw [hlength (hmode ▸ o.length_eq.symm)]
    rw [hexec] at hrun
    exact (o.fetch_busOnly _).writes.trans (hbody.writes hrun)
  | store mode hreg hmode hexec =>
    rw [hlength (hmode ▸ mode.length_eq.symm)]
    rw [hexec] at hrun
    cases hrun
    have hm := hreg.writesMemory (k := i.mode) (hmode ▸ mode.kind_ne_acc)
    exact (mode.resolve_busOnly .write _).writes.trans (hm.memWrite _ _ _)
  | modify mode hop hmode hexec =>
    rw [hlength (hmode ▸ mode.length_eq.symm)]
    rw [hexec] at hrun
    cases hrun
    have hm := hop.writesMemory (k := i.mode) (hmode ▸ mode.kind_ne_acc)
    exact ((((mode.resolve_busOnly .write _).trans (State.noteRead_busOnly _ _)).writes.trans
      (hm.dummyWrite _ _ _)).trans (hop.writes _ _)).trans (hm.memWrite _ _ _)
  | accumulator hop hmode hexec =>
    rw [hlength (n := 1) (by rw [hmode]; rfl), hmode]
    rw [hexec] at hrun
    cases hrun
    exact s.implied_busOnly.writes.trans (hop.writes _ _)
  | implied hbody hmode hexec =>
    rw [hlength (n := 1) (by rw [hmode]; rfl)]
    rw [hexec] at hrun
    cases hrun
    exact s.implied_busOnly.writes.trans (hbody.writes _)
  | @branch cond oper hcond hmode hexec =>
    rw [hlength (n := 2) (by rw [hmode]; rfl), hmode]
    have hdone : Completes i s { s with pc := if cond s.p = true then branchTarget (s.pc + 2) oper else s.pc + 2 } := by
      rw [Completes, hexec]
      exact branchInstr_spec _ oper s
    exact hdone.writes hrun (writes_pc_of_rel s 2 _)
  | jmpAbs w h =>
    subst h
    exact (completes_jmpAbs w s).writes hrun (by constructor <;> simp [Instr.mnemonic])
  | jmpInd w h =>
    subst h
    obtain ⟨lo, hi, -, -, hdone⟩ := completes_jmpInd w s
    exact hdone.writes hrun (by constructor <;> simp [Instr.mnemonic])
  | jsr w h =>
    subst h
    obtain ⟨hi, -, hdone⟩ := completes_jsr w s
    exact hdone.writes hrun (by simp [WritesMemory, Instr.mnemonic, Instr.mode]) (by constructor <;> simp [Instr.mnemonic])
  | rts h =>
    subst h
    obtain ⟨lo, hi, -, -, hdone⟩ := completes_rts s
    exact hdone.writes hrun (by constructor <;> simp [Instr.mnemonic])
  | rti h =>
    subst h
    obtain ⟨v, lo, hi, -, -, -, hdone⟩ := completes_rti s
    exact hdone.writes hrun (by constructor <;> simp [Instr.mnemonic])
  | pha h =>
    subst h
    exact (completes_pha s).writes hrun (by simp [WritesMemory, Instr.mnemonic, Instr.mode])
      (by constructor <;> simp [Instr.mnemonic, Instr.length, Instr.mode, AddrMode.format, Format.length])
  | php h =>
    subst h
    exact (completes_php s).writes hrun (by simp [WritesMemory, Instr.mnemonic, Instr.mode])
      (by constructor <;> simp [Instr.mnemonic, Instr.length, Instr.mode, AddrMode.format, Format.length])
  | pla h =>
    subst h
    obtain ⟨v, -, hdone⟩ := completes_pla s
    exact hdone.writes hrun
      (by constructor <;> simp [Instr.mnemonic, Instr.length, Instr.mode, AddrMode.format, Format.length])
  | plp h =>
    subst h
    obtain ⟨v, -, hdone⟩ := completes_plp s
    exact hdone.writes hrun
      (by constructor <;> simp [Instr.mnemonic, Instr.length, Instr.mode, AddrMode.format, Format.length])
  | brk h =>
    subst h
    obtain ⟨lo, hi, -, -, hdone⟩ := completes_brk s
    exact hdone.writes hrun (by simp [WritesMemory, Instr.mnemonic, Instr.mode]) (by constructor <;> simp [Instr.mnemonic])

/-- Settles O3: the flags' clauses of an instruction's frame. -/
theorem flagsChangeOnlyByTheirWriters : Obligations.FlagsChangeOnlyByTheirWriters := by
  intro i s t hrun
  have hframe := exec_writes hrun
  exact ⟨hframe.flagV, hframe.flagD, hframe.flagI, hframe.flagC, hframe.flagsNZ⟩

/-- Settles O4: the other clauses of an instruction's frame. -/
theorem stateChangesOnlyByItsWriters : Obligations.StateChangesOnlyByItsWriters := by
  intro i s t hrun
  have hframe := exec_writes hrun
  exact ⟨hframe.regA, hframe.regAOfMemory, hframe.regX, hframe.regY, hframe.regS, hframe.regPc, hframe.memory,
    hframe.nmiPending, hframe.irqLine, hframe.nmiLine, hframe.resetLine, hframe.resetPending, hframe.schedule,
    hframe.params⟩

end Sys2Proof.Machine
end


section
/-! What a step does to memory, the parameters, the schedule and the reset latch, whatever it executes or
takes (10_state.md, 20_memory.md, 60_exceptions.md). -/

namespace Sys2Proof.Machine

variable {s t u : State} {m : Mnemonic} {k : AddrMode} {i : Instr}

/-! ## Memory written in RAM alone -/

/-- From `s` to `t` memory is written in RAM alone, and stays in canonical form (R38, R58). -/
structure RamOnly (s t : State) : Prop where
  params_eq : t.params = s.params
  wf : s.mem.wf = true → t.mem.wf = true
  byteAt_eq : ∀ addr, s.kindAt addr ≠ .ram → t.byteAt addr = s.byteAt addr

theorem RamOnly.of_mem_eq (hparams : t.params = s.params) (hmem : t.mem = s.mem) : RamOnly s t :=
  ⟨hparams, fun h => hmem ▸ h, fun addr _ => State.byteAt_of_mem_eq hmem addr⟩

theorem RamOnly.trans (h : RamOnly s t) (h' : RamOnly t u) : RamOnly s u where
  params_eq := h'.params_eq.trans h.params_eq
  wf hwf := h'.wf (h.wf hwf)
  byteAt_eq addr hk :=
    (h'.byteAt_eq addr (by rwa [State.kindAt_of_params_eq h.params_eq])).trans (h.byteAt_eq addr hk)

theorem RamOnly.congr (h : RamOnly s t) (hparams : u.params = t.params) (hmem : u.mem = t.mem) : RamOnly s u :=
  h.trans (.of_mem_eq hparams hmem)

theorem BusOnly.ramOnly (h : BusOnly s t) : RamOnly s t := .of_mem_eq h.params h.mem

theorem State.memWrite_ramOnly (s : State) (addr : Word) (v : Byte) : RamOnly s (s.memWrite addr v) where
  params_eq := rfl
  wf := s.memWrite_wf addr v
  byteAt_eq there hk := by rw [State.byteAt_memWrite, if_neg (by rintro ⟨rfl, hram⟩; exact hk hram)]

theorem State.dummyWrite_ramOnly (s : State) (addr : Word) (v : Byte) : RamOnly s (s.dummyWrite addr v) := by
  unfold State.dummyWrite
  split
  · exact s.memWrite_ramOnly addr v
  · exact (BusOnly.refl s).ramOnly

theorem State.push_ramOnly (s : State) (v : Byte) : RamOnly s (s.push v) :=
  (s.memWrite_ramOnly (stackAddr s.sp) v).congr rfl rfl

theorem State.enterInterrupt_ramOnly (s : State) (ret : Word) (brk : Bool) (vec : Word) :
    RamOnly s (s.enterInterrupt ret brk vec) :=
  (((s.push_ramOnly (hiByte ret)).trans (State.push_ramOnly _ (loByte ret))).trans
    (State.push_ramOnly _ (s.p.pack brk))).congr rfl rfl

/-! ## Memory in an instruction -/

theorem Writes.memory_of_not (h : Writes m k s t) (hm : ¬WritesMemory m k) : t.mem = s.mem :=
  h.memory ((not_and_or.1 hm).imp_right not_not.1)

theorem ReadBody.not_writesMemory {body : Byte → State → Result} (h : ReadBody m body) : ¬WritesMemory m k := by
  cases h <;> simp [WritesMemory]

theorem ImpliedBody.not_writesMemory {body : State → State} (h : ImpliedBody m body) : ¬WritesMemory m k := by
  cases h <;> simp [WritesMemory]

theorem BranchCond.not_writesMemory {cond : Flags → Bool} (h : BranchCond m cond) : ¬WritesMemory m k := by
  cases h <;> simp [WritesMemory]

/-- An instruction that does not write memory leaves it alone. -/
theorem ramOnly_of_not_writesMemory (hrun : exec i s = .next t) (h : ¬WritesMemory i.mnemonic i.mode) : RamOnly s t :=
  .of_mem_eq (exec_writes hrun).params ((exec_writes hrun).memory_of_not h)

/-- Every instruction writes memory by MemWrite and Push alone. -/
theorem exec_ramOnly (hrun : exec i s = .next t) : RamOnly s t := by
  have hadvance (n : Nat) : RamOnly s (s.advance n) := .of_mem_eq rfl rfl
  cases shaped i with
  | read o hbody => exact ramOnly_of_not_writesMemory hrun hbody.not_writesMemory
  | store mode hreg hmode hexec =>
    rw [hexec] at hrun
    cases hrun
    exact ((hadvance _).trans (mode.resolve_busOnly .write _).ramOnly).trans (State.memWrite_ramOnly _ _ _)
  | modify mode hop hmode hexec =>
    rw [hexec] at hrun
    cases hrun
    have hflags (t : State) (p : Flags) : RamOnly t { t with p := p } := .of_mem_eq rfl rfl
    exact (((((hadvance _).trans (mode.resolve_busOnly .write _).ramOnly).trans
      (State.noteRead_busOnly _ _).ramOnly).trans (State.dummyWrite_ramOnly _ _ _)).trans (hflags _ _)).trans
      (State.memWrite_ramOnly _ _ _)
  | accumulator hop hmode => exact ramOnly_of_not_writesMemory hrun (by simp [WritesMemory, hmode])
  | implied hbody => exact ramOnly_of_not_writesMemory hrun hbody.not_writesMemory
  | branch oper hcond => exact ramOnly_of_not_writesMemory hrun hcond.not_writesMemory
  | jmpAbs w h | jmpInd w h =>
    subst h
    exact ramOnly_of_not_writesMemory hrun (by simp [WritesMemory, Instr.mnemonic])
  | rts h | rti h | pla h | plp h =>
    subst h
    exact ramOnly_of_not_writesMemory hrun (by simp [WritesMemory, Instr.mnemonic])
  | jsr w h =>
    subst h
    rw [exec_jsr] at hrun
    cases hrun
    have hread := (hadvance 3).trans ((s.advance 3).dummyRead_busOnly (stackAddr s.sp)).ramOnly
    have hpushed := hread.trans ((State.push_ramOnly _ (hiByte (s.pc + 2))).trans (State.push_ramOnly _ (loByte (s.pc + 2))))
    exact hpushed.congr rfl rfl
  | pha h =>
    subst h
    rw [exec_pha] at hrun
    cases hrun
    exact ((hadvance 1).trans s.implied_busOnly.ramOnly).trans (State.push_ramOnly _ _)
  | php h =>
    subst h
    rw [exec_php] at hrun
    cases hrun
    exact ((hadvance 1).trans s.implied_busOnly.ramOnly).trans (State.push_ramOnly _ _)
  | brk h =>
    subst h
    rw [exec_brk] at hrun
    cases hrun
    exact ((hadvance 1).trans s.implied_busOnly.ramOnly).trans (State.enterInterrupt_ramOnly _ _ _ _)

/-! ## Fetching -/

theorem readBytes_busOnly (count : Nat) : ∀ (addr : Word) (s : State), BusOnly s (readBytes count addr s).2 := by
  induction count with
  | zero => exact fun _ s => BusOnly.refl s
  | succ count ih => exact fun addr s => (s.noteRead_busOnly addr).trans (ih _ _)

/-- A fetch that finds an instruction changes nothing but the history and the count of free values (R10). -/
theorem State.fetch_busOnly (h : s.fetch = .instr i u) : BusOnly s u := by
  unfold State.fetch at h
  dsimp only at h
  split at h
  next => cases h
  next row _ =>
    split at h
    next => cases h
    next =>
      split at h
      next =>
        cases h
        exact readBytes_busOnly _ _ _
      next => cases h

/-! ## The frame of a step -/

/-- After the boundary's pin changes are seen, a step writes memory in RAM alone, and leaves the
schedule and the level of RESET as they are. -/
structure BoundaryFrame (s t : State) : Prop where
  ramOnly : RamOnly s t
  schedule_eq : t.schedule = s.schedule
  resetLine_eq : t.resetLine = s.resetLine

theorem State.resetSequence_boundaryFrame (s : State) : BoundaryFrame s s.resetSequence := by
  obtain ⟨lo, hi, -, -, h⟩ := s.resetSequence_spec
  rw [h]
  exact ⟨.of_mem_eq rfl rfl, rfl, rfl⟩

theorem State.enterInterrupt_boundaryFrame (h : BusOnly s t) (ret : Word) (brk : Bool) (vec : Word) :
    BoundaryFrame s (t.enterInterrupt ret brk vec) :=
  ⟨h.ramOnly.trans (t.enterInterrupt_ramOnly ret brk vec), by rw [t.enterInterrupt_spec, h.schedule],
    by rw [t.enterInterrupt_spec, h.resetLine]⟩

theorem State.takeIrq_boundaryFrame (s : State) : BoundaryFrame s s.takeIrq :=
  State.enterInterrupt_boundaryFrame s.discardedFetches_busOnly _ _ _

theorem State.takeNmi_boundaryFrame (s : State) : BoundaryFrame s s.takeNmi := by
  obtain ⟨hram, hschedule, hline⟩ := State.enterInterrupt_boundaryFrame s.discardedFetches_busOnly
    ((s.dummyRead s.pc).dummyRead s.pc).pc false nmiVector
  exact ⟨hram.trans (.of_mem_eq rfl rfl), hschedule, hline⟩

theorem boundaryFrame_of_fetch (hfetch : s.fetch = .instr i u) (hrun : exec i u = .next t) : BoundaryFrame s t := by
  have hread := State.fetch_busOnly hfetch
  exact ⟨hread.ramOnly.trans (exec_ramOnly hrun), (exec_writes hrun).schedule.trans hread.schedule,
    (exec_writes hrun).resetLine.trans hread.resetLine⟩

/-- Every step keeps the frame, whatever it executes or takes. -/
theorem step_boundaryFrame (h : step s = .next t) : BoundaryFrame s.sample t := by
  obtain ⟨-, rfl⟩ | ⟨-, -, rfl⟩ | ⟨-, -, -, rfl⟩ | ⟨-, -, -, -, rfl⟩ | ⟨-, -, -, -, i, u, hfetch, hrun⟩ := step_cases h
  · exact ⟨(BusOnly.refl _).ramOnly, rfl, rfl⟩
  · exact s.sample.resetSequence_boundaryFrame
  · exact s.sample.takeNmi_boundaryFrame
  · exact s.sample.takeIrq_boundaryFrame
  · exact boundaryFrame_of_fetch hfetch hrun

theorem State.sample_ramOnly (s : State) : RamOnly s s.sample := .of_mem_eq s.sample_params s.sample_mem

/-- Settles O8: the boundary takes its entry off the schedule, and the rest of the step leaves it alone. -/
theorem stepKeepsParameters : Obligations.StepKeepsParameters := by
  intro s t h
  have hframe := step_boundaryFrame h
  exact ⟨hframe.ramOnly.params_eq.trans s.sample_params, hframe.schedule_eq.trans s.sample_schedule⟩

/-- Settles O9: a step writes memory in RAM alone. -/
theorem onlyRamBytesChange : Obligations.OnlyRamBytesChange := by
  intro s t h
  exact (s.sample_ramOnly.trans (step_boundaryFrame h).ramOnly).byteAt_eq

/-! ## The invariant -/

/-- While RESET is held no reset sequence is due (R315, log 17). -/
def State.ResetSettled (s : State) : Prop := ¬(s.resetLine = true ∧ s.resetPending = true)

theorem State.inv_iff (s : State) : s.inv = true ↔ s.mem.wf = true ∧ s.ResetSettled := by
  simp [State.inv, State.ResetSettled, ← Bool.not_eq_true, imp_iff_not_or]

/-- Asserting RESET drops a sequence that was due, and releasing it lowers the line. -/
theorem State.applyPin_resetSettled (e : PinEvent) (h : s.ResetSettled) : (s.applyPin e).ResetSettled := by
  cases e with
  | irq level => exact h
  | nmi level => exact h
  | reset level => cases level <;> simp [State.ResetSettled, State.applyPin]

theorem State.sample_resetSettled (h : s.ResetSettled) : s.sample.ResetSettled := by
  have pins : ∀ (events : List PinEvent) (t : State), t.ResetSettled → (events.foldl State.applyPin t).ResetSettled := by
    intro events
    induction events with
    | nil => exact fun t ht => ht
    | cons e events ih => exact fun t ht => ih _ (State.applyPin_resetSettled e ht)
  exact pins _ { s with schedule := s.schedule.tail, bus := [] } h

/-- A step beyond the boundary runs with RESET released, and leaves it so. -/
theorem step_resetSettled (h : step s = .next t) (hs : s.ResetSettled) : t.ResetSettled := by
  obtain ⟨-, rfl⟩ | hline : (s.sample.resetLine = true ∧ t = s.sample) ∨ s.sample.resetLine = false := by
    cases hline : s.sample.resetLine
    · exact .inr rfl
    · obtain ⟨-, rfl⟩ | ⟨hno, -⟩ | ⟨hno, -⟩ | ⟨hno, -⟩ | ⟨hno, -⟩ := step_cases h
      · exact .inl ⟨rfl, rfl⟩
      all_goals simp [hline] at hno
  · exact State.sample_resetSettled hs
  · simp [State.ResetSettled, (step_boundaryFrame h).resetLine_eq, hline]

/-- Settles O7: a step writes memory cell by cell, and runs the reset sequence with RESET released. -/
theorem stepKeepsInvariant : Obligations.StepKeepsInvariant := by
  intro s t hinv h
  rw [State.inv_iff] at hinv ⊢
  exact ⟨(s.sample_ramOnly.trans (step_boundaryFrame h).ramOnly).wf hinv.1, step_resetSettled h hinv.2⟩

end Sys2Proof.Machine
end


section
/-! The effective address of each mode, and what stands there (40_addressing_modes.md). -/

namespace Sys2Proof.Machine

variable {s t : State}

/-! ## Addresses as numbers -/

theorem toNat_zeroPage (b : Byte) : (zeroPage b).toNat = b.toNat := by
  rw [zeroPage, toNat_hiLo]
  simp

theorem toNat_add_zext (w : Word) (b : Byte) : (w + zext b).toNat = (w.toNat + b.toNat) % 65536 := by
  rw [zext, BitVec.toNat_add, BitVec.toNat_setWidth_of_le (by decide)]

/-! ## Pointers -/

/-- The two bytes of a pointer in page zero are those that its two addresses deliver (R120, R121). -/
theorem State.zeroPagePointer_delivers (s : State) (b : Byte) :
    ∃ lo hi, (s.zeroPagePointer b).1 = hiLo hi lo ∧ s.Delivers (zeroPage b) lo ∧ s.Delivers (zeroPage (b + 1)) hi :=
  ⟨_, _, rfl, s.delivers_peek _, (State.delivers_congr rfl rfl _ _).1 ((s.noteRead (zeroPage b)).delivers_peek _)⟩

theorem BusOnly.delivers_iff (h : BusOnly s t) (addr : Word) (v : Byte) : t.Delivers addr v ↔ s.Delivers addr v :=
  State.delivers_congr h.params h.mem addr v

theorem BusOnly.zeroPagePointer_delivers (h : BusOnly s t) (b : Byte) :
    ∃ lo hi, (t.zeroPagePointer b).1 = hiLo hi lo ∧ s.Delivers (zeroPage b) lo ∧ s.Delivers (zeroPage (b + 1)) hi := by
  obtain ⟨lo, hi, hptr, hlo, hhi⟩ := t.zeroPagePointer_delivers b
  exact ⟨lo, hi, hptr, (h.delivers_iff _ _).1 hlo, (h.delivers_iff _ _).1 hhi⟩

/-- (zp),Y adds Y to the pointer at its operand (R121). -/
theorem resolve_izy (s : State) (k : Access) (b : Byte) :
    ∃ lo hi, ((Mode.izy b).resolve k s).ea.toNat = ((hiLo hi lo).toNat + s.y.toNat) % 65536 ∧
      ((Mode.izy b).resolve k s).crossed = decide (256 ≤ lo.toNat + s.y.toNat) ∧
      s.Delivers (zeroPage b) lo ∧ s.Delivers (zeroPage (b + 1)) hi := by
  obtain ⟨lo, hi, hptr, hlo, hhi⟩ := s.zeroPagePointer_delivers b
  have hea : ((Mode.izy b).resolve k s).ea = (s.zeroPagePointer b).1 + zext s.y := rfl
  have hcrossed : ((Mode.izy b).resolve k s).crossed =
      decide (256 ≤ (loByte (s.zeroPagePointer b).1).toNat + s.y.toNat) := rfl
  rw [hptr] at hea hcrossed
  rw [loByte_hiLo] at hcrossed
  exact ⟨lo, hi, by rw [hea, toNat_add_zext], hcrossed, hlo, hhi⟩

/-! ## The operand -/

/-- Where an instruction acts does not depend on what it does there: the two differ in a discarded read alone. -/
theorem Mode.resolve_ea (m : Mode) (k : Access) (s : State) : (m.resolve k s).ea = (m.resolve .write s).ea := by
  cases m <;> rfl

/-- The operand in memory is what the target delivers (R110). -/
theorem State.delivers_operand (s : State) (m : Mode) : s.Delivers (s.target m) (s.operand (.mem m)) := by
  have hread := m.resolve_busOnly .read (s.advance m.length)
  rw [State.target, ← m.resolve_ea .read]
  exact (hread.delivers_iff _ _).1 (State.delivers_peek _ _)

/-- The byte that is read to be modified is what the target delivers (R110, R170). -/
theorem State.delivers_modified (s : State) (m : Mode) : s.Delivers (s.target m) (s.modified m) :=
  ((m.resolve_busOnly .write (s.advance m.length)).delivers_iff _ _).1 (State.delivers_peek _ _)

/-- Settles O20: the addresses as numbers, the pointers by what they deliver. -/
theorem effectiveAddresses : Obligations.EffectiveAddresses := by
  refine ⟨fun s k b w => ⟨rfl, ?_, ?_, rfl, toNat_add_zext w s.x, toNat_add_zext w s.y, ?_, resolve_izy s k b, ?_, ?_,
    fun m hm => ?_⟩, fun s k m => m.resolve_busOnly k s, fun s m => ⟨s.delivers_operand m, s.delivers_modified m⟩,
    fun s b => rfl⟩
  · exact (toNat_zeroPage _).trans (BitVec.toNat_add ..)
  · exact (toNat_zeroPage _).trans (BitVec.toNat_add ..)
  · exact (s.dummyRead_busOnly (zeroPage b)).zeroPagePointer_delivers (b + s.x)
  · rw [← toNat_loByte]
    rfl
  · rw [← toNat_loByte]
    rfl
  · fin_cases hm <;> rfl

end Sys2Proof.Machine
end


section
/-! The accesses of an instruction in cycle order, shape by shape, and those of the interrupt entries and
the reset sequence (40_addressing_modes.md section 3). -/

namespace Sys2Proof.Machine

variable {s t : State} {m : Mnemonic} {f : Form Operand} {g : Form Mode}

theorem State.touches_of_bus_eq (h : t.bus = s.bus) : t.touches = s.touches := by rw [State.touches, h, State.touches]

/-! ## The addressing modes -/

theorem State.indexed_touches (s : State) (k : Access) (base : Word) (index : Byte) :
    (s.indexed k base index).state.touches = s.touches ++ s.indexTouches k base index := by
  unfold State.indexed State.indexTouches
  dsimp only
  by_cases h : 256 ≤ (loByte base).toNat + index.toNat ∨ k = .write
  · rw [if_pos h, if_pos (by simpa using h), State.dummyRead_touches]
  · rw [if_neg h, if_neg (by simpa using h), List.append_nil]

@[simp] theorem State.zeroPagePointer_touches (s : State) (b : Byte) :
    (s.zeroPagePointer b).2.touches = s.touches ++ [.r (zeroPage b), .r (zeroPage (b + 1))] := by
  show ((s.noteRead (zeroPage b)).noteRead (zeroPage (b + 1))).touches = _
  simp

/-- A mode's own accesses are those of its row (R124, R125). -/
theorem Mode.resolve_touches (mode : Mode) (k : Access) (s : State) :
    (mode.resolve k s).state.touches = s.touches ++ s.modeTouches k mode := by
  cases mode with
  | zp | abs => exact (List.append_nil _).symm
  | zpx | zpy => exact s.dummyRead_touches _
  | abx | aby => exact s.indexed_touches _ _ _
  | izx oper =>
    show ((s.dummyRead (zeroPage oper)).zeroPagePointer (oper + s.x)).2.touches = _
    simp [State.modeTouches]
  | izy oper =>
    show ((s.zeroPagePointer oper).2.indexed k (s.zeroPagePointer oper).1 s.y).state.touches = _
    have hindex : (s.zeroPagePointer oper).2.indexTouches k = s.indexTouches k := rfl
    rw [State.indexed_touches, State.zeroPagePointer_touches, hindex, List.append_assoc]
    rfl

/-- Moving PC on changes no access of a mode. -/
@[simp] theorem State.modeTouches_advance (s : State) (n : Nat) (k : Access) (mode : Mode) :
    (s.advance n).modeTouches k mode = s.modeTouches k mode := by
  cases mode <;> rfl

/-! ## The shapes of instruction -/

/-- The accesses of an operand: those of its mode, then the read of its target (R124). -/
def State.operandTouches (s : State) : Operand → List Touch
  | .imm _ => []
  | .mem mode => s.modeTouches .read mode ++ [.r (s.target mode)]

theorem Operand.fetch_touches (o : Operand) (s : State) :
    (o.fetch (s.advance o.length)).2.touches = s.touches ++ s.operandTouches o := by
  cases o with
  | imm => exact (List.append_nil _).symm
  | mem mode =>
    show ((mode.resolve .read (s.advance mode.length)).state.noteRead _).touches = _
    rw [State.noteRead_touches, Mode.resolve_touches, Mode.resolve_ea, State.modeTouches_advance, List.append_assoc]
    rfl

/-- The body of a read instruction makes no access. -/
theorem ReadBody.bus_eq {body : Byte → State → Result} {v : Byte} (hbody : ReadBody m body)
    (hrun : body v s = .next t) : t.bus = s.bus := by
  cases hbody
  case adc =>
    obtain ⟨r, h⟩ := State.adc_next hrun
    rw [h]
    rfl
  case sbc =>
    obtain ⟨r, h⟩ := State.sbc_next hrun
    rw [h]
    rfl
  all_goals
    cases hrun
    rfl

theorem readInstr_touches {body : Byte → State → Result} {o : Operand} (hbody : ReadBody m body)
    (hrun : readInstr o body s = .next t) : t.touches = s.touches ++ s.operandTouches o :=
  (State.touches_of_bus_eq (hbody.bus_eq hrun)).trans (o.fetch_touches s)

/-- All read instructions but ADC and SBC go on whatever their operand is. -/
theorem ReadBody.exists_next {body : Byte → State → Result} (hbody : ReadBody m body) (hm : m ∉ [.adc, .sbc]) (v : Byte)
    (s : State) : ∃ t, body v s = .next t := by
  cases hbody
  case adc | sbc => simp at hm
  all_goals exact ⟨_, rfl⟩

theorem storeInstr_touches (mode : Mode) (v : Byte) (s : State) : ∃ t, storeInstr mode v s = .next t ∧
    t.touches = s.touches ++ (s.modeTouches .write mode ++ [.w (s.target mode)]) := by
  refine ⟨_, rfl, ?_⟩
  rw [State.memWrite_touches, Mode.resolve_touches, State.modeTouches_advance, List.append_assoc]
  rfl

theorem modifyInstr_touches (mode : Mode) (op : Byte → Flags → Byte × Flags) (s : State) :
    ∃ t, modifyInstr mode op s = .next t ∧ t.touches = s.touches ++ (s.modeTouches .write mode ++
      [.r (s.target mode)] ++ s.discarded (.w (s.target mode)) ++ [.w (s.target mode)]) := by
  refine ⟨_, rfl, ?_⟩
  have hflags (t : State) (p : Flags) : State.touches { t with p := p } = t.touches := rfl
  rw [State.memWrite_touches, hflags]
  simp [Mode.resolve_touches, State.target, State.discarded_of_params_eq (Mode.resolve_params _ _ _)]

theorem accumulatorInstr_touches (op : Byte → Flags → Byte × Flags) (s : State) :
    ∃ t, accumulatorInstr op s = .next t ∧ t.touches = s.touches ++ s.discarded (.r (s.pc + 1)) :=
  ⟨_, rfl, s.implied_touches⟩

/-- A one-byte change of the registers makes no access of its own (R124). -/
theorem impliedInstr_touches {body : State → State} (hbody : ImpliedBody m body) (s : State) :
    ∃ t, impliedInstr body s = .next t ∧ t.touches = s.touches ++ s.discarded (.r (s.pc + 1)) := by
  cases hbody
  all_goals exact ⟨_, rfl, s.implied_touches⟩

/-- The discarded reads of a branch: none when it is not taken, one to the same page, two to another (R124). -/
def State.branchTouches (s : State) (taken : Bool) (oper : Byte) : List Touch :=
  if taken = false then []
  else s.discarded (.r (s.pc + 2)) ++
    (if hiByte (branchTarget (s.pc + 2) oper) = hiByte (s.pc + 2) then []
    else s.discarded (.r (hiLo (hiByte (s.pc + 2)) (loByte (branchTarget (s.pc + 2) oper)))))

theorem branchInstr_touches (cond : Bool) (oper : Byte) (s : State) :
    ∃ t, branchInstr cond oper s = .next t ∧ t.touches = s.touches ++ s.branchTouches cond oper := by
  cases cond
  case false => exact ⟨s.advance 2, rfl, (List.append_nil _).symm⟩
  case true =>
    refine ⟨_, rfl, ?_⟩
    have hpc (t : State) (w : Word) : State.touches { t with pc := w } = t.touches := rfl
    rw [hpc]
    have hnext : (s.advance 2).pc = s.pc + 2 := rfl
    simp only [hnext, State.branchTouches, Bool.true_eq_false, if_false]
    split <;> simp

/-! ## Loads, one-byte instructions, branches -/

theorem Form.Reads.touches_of_exec {body : Byte → State → Result} (h : f.Reads body) (hbody : ReadBody m body)
    (hrun : exec f.instr s = .next t) : t.touches = s.touches ++ s.operandTouches f.place :=
  readInstr_touches hbody (h.exec_eq s ▸ hrun)

theorem Form.Reads.touches {body : Byte → State → Result} (h : f.Reads body) (hbody : ReadBody m body)
    (hm : m ∉ [.adc, .sbc]) (s : State) : Touches f.instr s (s.operandTouches f.place) := by
  obtain ⟨t, hrun⟩ := hbody.exists_next hm (s.operand f.place) (s.atBody f)
  rw [← h.exec_eq_body] at hrun
  exact ⟨t, hrun, h.touches_of_exec hbody hrun⟩

/-- Settles O21: each shape's accesses, for the forms and the instructions that have it. -/
theorem readAccessLists : Obligations.ReadAccessLists := by
  refine ⟨fun b w => ?_, fun b w => ?_, fun i hi s => ?_, fun s b c hc => ?_⟩
  · simp only [List.forall_mem_append, and_assoc]
    exact ⟨fun f hf => (ldaForms_reads f hf).touches .lda (by simp), fun f hf => (ldxForms_reads f hf).touches .ldx (by simp),
      fun f hf => (ldyForms_reads f hf).touches .ldy (by simp), fun f hf => (andForms_reads f hf).touches .and (by simp),
      fun f hf => (eorForms_reads f hf).touches .eor (by simp), fun f hf => (oraForms_reads f hf).touches .ora (by simp),
      fun f hf => (cmpForms_reads f hf).touches .cmp (by simp), fun f hf => (cpxForms_reads f hf).touches .cpx (by simp),
      fun f hf => (cpyForms_reads f hf).touches .cpy (by simp), fun f hf => (bitForms_reads f hf).touches .bit (by simp)⟩
  · simp only [List.forall_mem_append]
    exact ⟨fun f hf s t => (adcForms_reads f hf).touches_of_exec .adc, fun f hf s t => (sbcForms_reads f hf).touches_of_exec .sbc⟩
  · fin_cases hi <;> exact ⟨_, rfl, s.implied_touches⟩
  · fin_cases hc <;> exact branchInstr_touches _ b s

/-! ## Stores and read-modify-write instructions -/

theorem Form.Stores.touches {reg : State → Byte} (h : g.Stores reg) (s : State) :
    Touches g.instr s (s.modeTouches .write g.place ++ [.w (s.target g.place)]) := by
  rw [Touches, h.exec_eq]
  exact storeInstr_touches g.place (reg s) s

theorem Form.Modifies.touches {op : Byte → Flags → Byte × Flags} (h : g.Modifies op) (s : State) :
    Touches g.instr s (s.modeTouches .write g.place ++ [.r (s.target g.place)] ++
      s.discarded (.w (s.target g.place)) ++ [.w (s.target g.place)]) := by
  rw [Touches, h.exec_eq]
  exact modifyInstr_touches g.place op s

/-- Settles O22: the accesses of the two shapes that write to memory. -/
theorem writeAccessLists : Obligations.WriteAccessLists := by
  refine ⟨fun b w => ?_, fun b w => ?_⟩
  · simp only [List.forall_mem_append, and_assoc]
    exact ⟨fun f hf => (staForms_stores f hf).touches, fun f hf => (stxForms_stores f hf).touches,
      fun f hf => (styForms_stores f hf).touches⟩
  · simp only [List.forall_mem_append, and_assoc]
    exact ⟨fun f hf => (aslForms_modifies f hf).touches, fun f hf => (lsrForms_modifies f hf).touches,
      fun f hf => (rolForms_modifies f hf).touches, fun f hf => (rorForms_modifies f hf).touches,
      fun f hf => (incForms_modifies f hf).touches, fun f hf => (decForms_modifies f hf).touches⟩

/-! ## The stack, the jumps, the entries -/

@[simp] theorem State.beforePull_sp (s : State) : s.beforePull.sp = s.sp := by simp [State.beforePull]

theorem State.discarded_beforePull (s : State) (e : Touch) : s.beforePull.discarded e = s.discarded e :=
  State.discarded_of_params_eq (by simp [State.beforePull]) e

@[simp] theorem State.beforePull_touches (s : State) : s.beforePull.touches =
    s.touches ++ (s.discarded (.r (s.pc + 1)) ++ s.discarded (.r (stackAddr s.sp))) := by
  simp [State.beforePull]

theorem touches_pha (s : State) : Touches .pha s (s.discarded (.r (s.pc + 1)) ++ [.w (stackAddr s.sp)]) :=
  ⟨_, exec_pha s, by simp⟩

theorem touches_php (s : State) : Touches .php s (s.discarded (.r (s.pc + 1)) ++ [.w (stackAddr s.sp)]) :=
  ⟨_, exec_php s, by simp⟩

theorem touches_pla (s : State) : Touches .pla s
    (s.discarded (.r (s.pc + 1)) ++ s.discarded (.r (stackAddr s.sp)) ++ [.r (stackAddr (s.sp + 1))]) := by
  refine ⟨_, exec_pla s, (State.touches_of_bus_eq (State.loadA_bus _ _)).trans ?_⟩
  simp

theorem touches_plp (s : State) : Touches .plp s
    (s.discarded (.r (s.pc + 1)) ++ s.discarded (.r (stackAddr s.sp)) ++ [.r (stackAddr (s.sp + 1))]) := by
  refine ⟨_, exec_plp s, (State.touches_of_bus_eq (s := s.beforePull.pull.2) rfl).trans ?_⟩
  simp

theorem touches_jsr (w : Word) (s : State) : Touches (.jsr w) s (s.discarded (.r (stackAddr s.sp)) ++
    [.w (stackAddr s.sp), .w (stackAddr (s.sp - 1)), .r (s.pc + 2)]) := by
  let t := (((s.advance 3).dummyRead (stackAddr s.sp)).push (hiByte (s.pc + 2))).push (loByte (s.pc + 2))
  refine ⟨_, exec_jsr w s, (State.touches_of_bus_eq (s := t.noteRead (s.pc + 2)) rfl).trans ?_⟩
  simp [t]

/-- The last discarded read of RTS is at the address pulled, one before PC (R125). -/
theorem touches_rts (s : State) : ∃ t, exec .rts s = .next t ∧ t.touches = s.touches ++ (s.discarded (.r (s.pc + 1)) ++
    s.discarded (.r (stackAddr s.sp)) ++ [.r (stackAddr (s.sp + 1)), .r (stackAddr (s.sp + 2))] ++
    s.discarded (.r (t.pc - 1))) := by
  refine ⟨_, exec_rts s, ?_⟩
  have hpc (t : State) (w : Word) : State.touches { t with pc := w } = t.touches := rfl
  have hsp : s.sp + 1#8 + 1#8 = s.sp + 2#8 := BitVec.add_assoc ..
  rw [hpc]
  simp [State.discarded_beforePull, hsp]

theorem touches_rti (s : State) : Touches .rti s (s.discarded (.r (s.pc + 1)) ++ s.discarded (.r (stackAddr s.sp)) ++
    [.r (stackAddr (s.sp + 1)), .r (stackAddr (s.sp + 2)), .r (stackAddr (s.sp + 3))]) := by
  refine ⟨_, exec_rti s, (State.touches_of_bus_eq (s := s.beforePull.pull.2.pull.2.pull.2) rfl).trans ?_⟩
  have hsp : s.sp + 1#8 + 1#8 = s.sp + 2#8 := BitVec.add_assoc ..
  have hsp' : s.sp + 2#8 + 1#8 = s.sp + 3#8 := BitVec.add_assoc ..
  simp [hsp, hsp']

theorem touches_jmpAbs (w : Word) (s : State) : Touches (.jmpAbs w) s [] := ⟨_, rfl, (List.append_nil _).symm⟩

theorem touches_jmpInd (w : Word) (s : State) : Touches (.jmpInd w) s [.r w, .r (s.pointerSecond w)] := by
  let t := ((s.advance 3).noteRead w).noteRead (s.pointerSecond w)
  refine ⟨_, exec_jmpInd w s, (State.touches_of_bus_eq (s := t) rfl).trans ?_⟩
  simp [t]

theorem touches_brk (s : State) : Touches .brk s (s.discarded (.r (s.pc + 1)) ++ [.w (stackAddr s.sp),
    .w (stackAddr (s.sp - 1)), .w (stackAddr (s.sp - 2)), .r irqVector, .r (irqVector + 1)]) := by
  refine ⟨_, exec_brk s, ?_⟩
  rw [State.enterInterrupt_touches, Byte.sub_one_sub_one]
  simp

/-- IRQ and NMI are entered alike: two discarded fetches, three pushes, the vector (R125, R318). -/
theorem State.entry_touches (s : State) (vec : Word) :
    (((s.dummyRead s.pc).dummyRead s.pc).enterInterrupt s.pc false vec).touches = s.touches ++
      (s.discarded (.r s.pc) ++ s.discarded (.r s.pc) ++ [.w (stackAddr s.sp), .w (stackAddr (s.sp - 1)),
        .w (stackAddr (s.sp - 2)), .r vec, .r (vec + 1)]) := by
  rw [State.enterInterrupt_touches, Byte.sub_one_sub_one]
  simp

theorem State.takeNmi_touches (s : State) : s.takeNmi.touches =
    (((s.dummyRead s.pc).dummyRead s.pc).enterInterrupt s.pc false nmiVector).touches := by
  have hnmi : s.takeNmi = { ((s.dummyRead s.pc).dummyRead s.pc).enterInterrupt s.pc false nmiVector with
      nmiPending := false } := by
    simp only [State.takeNmi, State.dummyRead_pc]
  rw [hnmi]
  rfl

theorem State.resetSequence_touches (s : State) : s.resetSequence.touches = s.touches ++
    (s.discarded (.r s.pc) ++ s.discarded (.r s.pc) ++ s.discarded (.r (stackAddr s.sp)) ++
      s.discarded (.r (stackAddr (s.sp - 1))) ++ s.discarded (.r (stackAddr (s.sp - 2))) ++
      [.r resetVector, .r (resetVector + 1)]) := by
  unfold State.resetSequence
  rw [State.jumpThrough_touches]
  have hfields (t : State) (sp : Byte) (p : Flags) :
      State.touches { t with sp := sp, p := p, nmiPending := false, resetPending := false } = t.touches := rfl
  rw [hfields]
  simp

/-- Settles O23: each list is the one of its instruction or of its entry. -/
theorem stackAccessLists : Obligations.StackAccessLists := fun s =>
  ⟨touches_pha s, touches_php s, touches_pla s, touches_plp s, fun w => touches_jsr w s, touches_rts s, touches_rti s,
    fun w => touches_jmpAbs w s, fun w => touches_jmpInd w s, touches_brk s, s.entry_touches irqVector,
    s.takeNmi_touches.trans (s.entry_touches nmiVector), s.resetSequence_touches⟩

end Sys2Proof.Machine
end


section
/-! A step that executes an instruction: what it fetches, where it can get stuck, and how many accesses it
makes (00_scope.md section 5, 20_memory.md, 30_encoding.md section 1). -/

namespace Sys2Proof.Machine

variable {s t u : State} {i : Instr} {m : Mnemonic}

/-! ## The fetch -/

/-- An instruction is as long as the opcode and the operand bytes that its row takes (R80, R82). -/
theorem length_of_makes {op : Byte} {row : Row} {operands : List Byte} (hrow : rowOf op = some row)
    (h : row.build.Makes operands i) : i.length = row.build.operandBytes + 1 := by
  obtain ⟨hmem, -⟩ := mem_opcodeTable_of_rowOf hrow
  rw [Instr.length, (opcodeTable_encode row hmem operands i h).2, opcodeTable_operandBytes row hmem]

/-- The bytes that a step fetches: all but those the body reads itself (R64, R80). -/
def fetchedBytes (i : Instr) : Nat := if i.mnemonic = .jsr then 2 else i.length

theorem length_sub_bodyReads (i : Instr) : i.length - bodyReads i = fetchedBytes i := by
  unfold bodyReads fetchedBytes
  split
  next h => cases i <;> cases h; rfl
  next => rfl

/-- The bytes of the instruction stand at PC, in memory that answers. -/
def State.Holds (s : State) (i : Instr) (bytes : List Byte) : Prop :=
  ∀ k < i.length, s.answers (s.pc + BitVec.ofNat 16 k) = true ∧
    bytes[k]? = some (s.byteAt (s.pc + BitVec.ofNat 16 k))

/-- The history that the fetch of the instruction leaves. -/
def State.fetchHistory (s : State) (i : Instr) : List BusEvent :=
  (List.range (fetchedBytes i)).map fun k => .read (s.pc + BitVec.ofNat 16 k) (s.byteAt (s.pc + BitVec.ofNat 16 k))

theorem State.readBytes_of_holds {bytes : List Byte} (h : s.Holds i bytes) {n : Nat} (hn : n ≤ i.length) :
    (readBytes n s.pc s).1 = bytes.take n := by
  rw [readBytes_of_backed n s.pc s fun k hk => (h k (by omega)).1]
  apply List.ext_getElem?
  intro k
  by_cases hk : k < n
  · simp [hk, (h k (by omega)).2]
  · simp [hk]

/-- Where the bytes of an instruction of the part stand at PC, the fetch finds it (R10, R54, R81). -/
theorem State.fetch_eq_instr {bytes rest : List Byte} (hdecode : decode bytes = .ok (i, rest))
    (hwf : wellFormed s.params i = true) (h : s.Holds i bytes) (hbus : s.bus = []) :
    s.fetch = .instr i { s with bus := s.fetchHistory i } := by
  obtain ⟨op, row, operands, hrow, hmakes, rfl⟩ := exists_makes_of_decode hdecode
  have hlength := length_of_makes hrow hmakes
  have hop : s.peek s.pc = op := by
    have hfirst := h 0 (by omega)
    simp only [BitVec.add_zero, List.cons_append, List.getElem?_cons_zero, Option.some.injEq] at hfirst
    rw [State.peek_of_backed hfirst.1, hfirst.2]
  have hread : (readBytes i.length s.pc s).1 = op :: operands := by
    rw [State.readBytes_of_holds h le_rfl, hlength, List.take_left']
    simp [hmakes.length_eq]
  have hfetched : decode (op :: operands) = .ok (i, []) := by simpa using decode_of_makes hrow hmakes []
  have hstate : (readBytes (fetchedBytes i) s.pc s).2 = { s with bus := s.fetchHistory i } := by
    rw [readBytes_of_backed (fetchedBytes i) s.pc s fun k hk => (h k ?_).1, hbus]
    · rfl
    · rw [← length_sub_bodyReads] at hk
      omega
  simp only [State.fetch, hop, hrow, hread, hfetched, hwf, if_true, ← hlength, length_sub_bodyReads, hstate]

/-- The step's meaning, from the state in which its boundary left the machine and its fetch the history. -/
theorem step_eq_exec {bytes rest : List Byte} (hfetches : s.fetchesNext = true) (hdecode : decode bytes = .ok (i, rest))
    (hwf : wellFormed s.params i = true) (h : s.Holds i bytes) :
    step s = rejectUnmapped (exec i { s.sample with bus := s.fetchHistory i }) := by
  have hsample : s.sample.Holds i bytes := by
    simpa only [State.Holds, State.answers, s.sample_pc, State.kindAt_of_params_eq s.sample_params,
      State.byteAt_of_mem_eq s.sample_mem] using h
  have hhistory : s.sample.fetchHistory i = s.fetchHistory i := by
    simp only [State.fetchHistory, s.sample_pc, State.byteAt_of_mem_eq s.sample_mem]
  rw [step_of_fetchesNext hfetches, State.execute,
    State.fetch_eq_instr hdecode (by rwa [s.sample_params]) hsample s.sample_bus, hhistory]

/-- Settles O19: the fetch finds the instruction, and leaves the history of its bytes. -/
theorem stepRunsDecodedInstruction : Obligations.StepRunsDecodedInstruction :=
  fun _ _ _ _ hfetches hdecode hwf h => step_eq_exec hfetches hdecode hwf h

/-! ## Where a step gets stuck -/

/-- What `s` can come to on its platform: a next state with its parameters, a stop at an access the
platform rejects, or a refusal. -/
inductive ComesTo (s : State) : Result → Prop
  | next {t : State} (hparams : t.params = s.params) : ComesTo s (.next t)
  | stuck {t : State} {addr : Word} (hparams : t.params = s.params) (hstuck : t.stuckAt = some addr) :
    ComesTo s (.fault (.stuck addr))
  | refused (r : Refusal) : ComesTo s (.refused r)

variable {r : Result}

theorem ComesTo.of_params_eq (h : ComesTo t r) (hparams : t.params = s.params) : ComesTo s r := by
  cases h with
  | next h => exact .next (h.trans hparams)
  | stuck h hstuck => exact .stuck (h.trans hparams) hstuck
  | refused r => exact .refused r

theorem State.refuse_comesTo (s : State) (reason : Refusal) : ComesTo s (s.refuse reason) := by
  unfold State.refuse
  split
  next addr hstuck => exact .stuck rfl hstuck
  next => exact .refused reason

theorem State.finish_comesTo (s : State) : ComesTo s s.finish := by
  unfold State.finish
  split
  next addr hstuck => exact .stuck rfl hstuck
  next => exact .next rfl

theorem State.decimalArith_comesTo (g : Byte → Byte → Bool → Arith) (v : Byte) (s : State) :
    ComesTo s (s.decimalArith g v) := by
  have hwrite (result : Arith) : (s.writeDecimal result).params = s.params := by
    obtain ⟨_, h⟩ := s.exists_writeDecimal_eq result
    rw [h]
    rfl
  unfold State.decimalArith
  split
  · exact .next (hwrite _)
  · split
    · exact .next (hwrite _)
    · exact s.refuse_comesTo _

/-- Only ADC and SBC have a body that can stop (R142, R144). -/
theorem ReadBody.comesTo {body : Byte → State → Result} (hbody : ReadBody m body) (v : Byte) (s : State) :
    ComesTo s (body v s) := by
  cases hbody
  case adc =>
    unfold State.adc
    split
    · exact s.decimalArith_comesTo _ v
    · exact .next rfl
  case sbc =>
    unfold State.sbc
    split
    · exact s.decimalArith_comesTo _ v
    · exact .next rfl
  all_goals exact .next rfl

theorem comesTo_of_exists_next (h : ∃ t, exec i s = .next t) : ComesTo s (exec i s) := by
  obtain ⟨t, hrun⟩ := h
  rw [hrun]
  exact .next (exec_writes hrun).params

theorem exec_comesTo (i : Instr) (s : State) : ComesTo s (exec i s) := by
  cases shaped i with
  | read o hbody _ hexec =>
    rw [hexec]
    exact (hbody.comesTo _ _).of_params_eq (o.fetch_params _)
  | store | modify | accumulator | implied => exact comesTo_of_exists_next ⟨_, by simp only [*]; rfl⟩
  | branch oper _ _ hexec =>
    obtain ⟨t, hbranch, -⟩ := branchInstr_spec _ oper s
    exact comesTo_of_exists_next ⟨t, (hexec s).trans hbranch⟩
  | jmpAbs w h | jmpInd w h | jsr w h =>
    subst h
    exact comesTo_of_exists_next ⟨_, rfl⟩
  | rts h | rti h | pha h | php h | pla h | plp h | brk h =>
    subst h
    exact comesTo_of_exists_next ⟨_, rfl⟩

/-- A fetch that finds no opcode of the part has read the one byte (R92). -/
theorem State.eq_of_fetch_undefined {op : Byte} (h : s.fetch = .undefined op u) : u = s.noteRead s.pc := by
  unfold State.fetch at h
  dsimp only at h
  split at h
  next => cases h; rfl
  next =>
    split at h
    next => cases h; rfl
    next =>
      split at h
      next => cases h
      next => cases h; rfl

theorem State.execute_comesTo (s : State) : ComesTo s s.execute := by
  unfold State.execute
  cases hfetch : s.fetch with
  | instr i u => exact (exec_comesTo i u).of_params_eq (State.fetch_busOnly hfetch).params
  | undefined op u =>
    rw [State.eq_of_fetch_undefined hfetch]
    exact (State.refuse_comesTo _ _).of_params_eq (s.noteRead_params s.pc)

theorem State.atBoundary_comesTo (s : State) (choice : Bool) : ComesTo s (s.atBoundary choice) := by
  unfold State.atBoundary
  split_ifs
  · exact .next rfl
  · exact .next s.resetSequence_boundaryFrame.ramOnly.params_eq
  · exact .next s.takeNmi_boundaryFrame.ramOnly.params_eq
  · exact .next s.takeIrq_boundaryFrame.ramOnly.params_eq
  · exact s.execute_comesTo

theorem ComesTo.rejectUnmapped (h : ComesTo s r) : ComesTo s (rejectUnmapped r) := by
  cases h with
  | @next t hparams => exact t.finish_comesTo.of_params_eq hparams
  | stuck hparams hstuck => exact .stuck hparams hstuck
  | refused reason => exact .refused reason

theorem step_comesTo (s : State) : ComesTo s (step s) :=
  (s.sample.atBoundary_comesTo _).rejectUnmapped.of_params_eq s.sample_params

/-- The first unmapped address in a history is unmapped. -/
theorem State.kindAt_of_firstUnmapped {addr : Word} : ∀ {history : List BusEvent},
    s.firstUnmapped history = some addr → s.kindAt addr = .unmapped
  | [], h => by cases h
  | .read a _ :: rest, h | .write a _ :: rest, h => by
    unfold State.firstUnmapped at h
    split at h
    next hkind => cases h; exact hkind
    next => exact State.kindAt_of_firstUnmapped h

/-- A history without a first unmapped address has none at all. -/
theorem State.kindAt_ne_of_firstUnmapped {addr : Word} : ∀ {history : List BusEvent},
    s.firstUnmapped history = none → (.r addr ∈ history.map BusEvent.touch ∨ .w addr ∈ history.map BusEvent.touch) →
      s.kindAt addr ≠ .unmapped
  | [], _, htouch => by simp at htouch
  | .read a _ :: rest, h, htouch | .write a _ :: rest, h, htouch => by
    unfold State.firstUnmapped at h
    split at h
    next => cases h
    next hkind =>
      by_cases haddr : addr = a
      · exact haddr ▸ hkind
      · exact State.kindAt_ne_of_firstUnmapped h (by simpa [BusEvent.touch, haddr] using htouch)

theorem State.stuckAt_eq_some {addr : Word} (h : s.stuckAt = some addr) :
    s.params.unmappedAccess = .stuck ∧ s.firstUnmapped s.bus = some addr := by
  cases hmode : s.params.unmappedAccess with
  | anyValue => simp [State.stuckAt, hmode] at h
  | stuck => exact ⟨rfl, by simpa [State.stuckAt, hmode] using h⟩

/-- A step that faults is stuck at an access that the platform rejects (R59, R310). -/
theorem stuck_of_step_fault {reason : Fault} (h : step s = .fault reason) :
    s.params.unmappedAccess = .stuck ∧ ∃ addr, reason = .stuck addr ∧ s.kindAt addr = .unmapped := by
  have hcomes := step_comesTo s
  rw [h] at hcomes
  cases hcomes with
  | @stuck t addr hparams hstuck =>
    obtain ⟨hmode, hfirst⟩ := State.stuckAt_eq_some hstuck
    exact ⟨hparams ▸ hmode, addr, rfl,
      (State.kindAt_of_params_eq hparams addr).symm.trans (State.kindAt_of_firstUnmapped hfirst)⟩

/-- Settles O12: a fault is a state's own rejected access, and a step that goes on was found free of them. -/
theorem stuckOnlyOnUnmappedAccess : Obligations.StuckOnlyOnUnmappedAccess := by
  refine ⟨fun s reason hany h => ?_, fun s addr h => ?_, fun s t addr hmode h htouch => ?_⟩
  · simpa [hany] using (stuck_of_step_fault h).1
  · obtain ⟨-, addr', heq, hkind⟩ := stuck_of_step_fault h
    cases heq
    exact hkind
  · have hparams := (stepKeepsParameters s t h).1
    have hfree := (rejectUnmapped_next h).2
    rw [State.stuckAt, hparams, hmode] at hfree
    rw [← State.kindAt_of_params_eq hparams]
    exact State.kindAt_ne_of_firstUnmapped hfree htouch

/-! ## The length of the history -/

/-- Where the discarded accesses are performed, each counts for one cycle (R60, D13). -/
theorem length_discarded (h : s.performsDummies = true) (e : Touch) : (s.discarded e).length = 1 := by
  simp [State.discarded, h]

theorem length_indexTouches_read (h : s.performsDummies = true) (base : Word) (index : Byte) :
    (s.indexTouches .read base index).length = bit (decide (256 ≤ (loByte base).toNat + index.toNat)) := by
  by_cases hcross : 256 ≤ (loByte base).toNat + index.toNat
  · simp [State.indexTouches, hcross, length_discarded h, bit]
  · simp [State.indexTouches, hcross, bit]

theorem length_indexTouches_write (h : s.performsDummies = true) (base : Word) (index : Byte) :
    (s.indexTouches .write base index).length = 1 := by
  simp [State.indexTouches, length_discarded h]

/-- A read instruction makes one access a cycle: its bytes, its mode's accesses, its operand (R72, R124). -/
theorem length_operandTouches (h : s.performsDummies = true) (o : Operand) :
    (s.operandTouches o).length + o.length = o.cycles + bit (s.crosses o) := by
  cases o with
  | imm oper => rfl
  | mem mode =>
    cases mode with
    | zp oper | abs oper => rfl
    | zpx oper | zpy oper | izx oper =>
      simp [State.operandTouches, State.modeTouches, length_discarded h, Operand.length, Mode.length, Operand.cycles,
        State.crosses, Mode.resolve, bit]
    | abx oper =>
      have hcross : s.crosses (.mem (.abx oper)) = decide (256 ≤ (loByte oper).toNat + s.x.toNat) := rfl
      simp [State.operandTouches, State.modeTouches, length_indexTouches_read h, hcross, Operand.length, Mode.length,
        Operand.cycles]
      omega
    | aby oper =>
      have hcross : s.crosses (.mem (.aby oper)) = decide (256 ≤ (loByte oper).toNat + s.y.toNat) := rfl
      simp [State.operandTouches, State.modeTouches, length_indexTouches_read h, hcross, Operand.length, Mode.length,
        Operand.cycles]
      omega
    | izy oper =>
      have hcross : s.crosses (.mem (.izy oper)) =
        decide (256 ≤ (loByte (s.zeroPagePointer oper).1).toNat + s.y.toNat) := rfl
      simp [State.operandTouches, State.modeTouches, length_indexTouches_read h, hcross, Operand.length, Mode.length,
        Operand.cycles]
      omega

/-- A store makes one access a cycle (R72, R125). -/
theorem length_modeTouches_write (h : s.performsDummies = true) (mode : Mode) :
    (s.modeTouches .write mode).length + 1 + mode.length = mode.storeCycles := by
  cases mode <;>
    simp [State.modeTouches, length_discarded h, length_indexTouches_write h, Mode.length, Mode.storeCycles]

/-- A branch makes one access a cycle (R72, R364). -/
theorem length_branchTouches (h : s.performsDummies = true) (taken : Bool) (oper : Byte) :
    (s.branchTouches taken oper).length = branchCycles taken oper s := by
  cases taken
  case false => rfl
  case true =>
    simp only [State.branchTouches, branchCycles, Bool.true_eq_false, if_false, if_true, List.length_append,
      length_discarded h]
    split <;> simp [length_discarded h]

/-- The instruction adds the accesses to the history. -/
theorem Touches.eq_of_exec {list : List Touch} (h : Touches i s list) (hrun : exec i s = .next t) :
    t.touches = s.touches ++ list := by
  obtain ⟨t', hexec, ht⟩ := h
  obtain rfl : t = t' := by simpa [hrun] using hexec
  exact ht

theorem ReadBody.ne_jsr {m : Mnemonic} {body : Byte → State → Result} (h : ReadBody m body) : m ≠ .jsr := by
  cases h <;> simp

theorem StoreReg.ne_jsr {m : Mnemonic} {reg : State → Byte} (h : StoreReg m reg) : m ≠ .jsr := by
  cases h <;> simp

theorem ShiftOp.ne_jsr {m : Mnemonic} {op : Byte → Flags → Byte × Flags} (h : ShiftOp m op) : m ≠ .jsr := by
  cases h <;> simp

theorem ModifyOp.ne_jsr {m : Mnemonic} {op : Byte → Flags → Byte × Flags} (h : ModifyOp m op) : m ≠ .jsr := by
  cases h with
  | shift hop => exact hop.ne_jsr
  | inc | dec => simp

theorem ImpliedBody.ne_jsr {m : Mnemonic} {body : State → State} (h : ImpliedBody m body) : m ≠ .jsr := by
  cases h <;> simp

theorem BranchCond.ne_jsr {m : Mnemonic} {cond : Flags → Bool} (h : BranchCond m cond) : m ≠ .jsr := by
  cases h <;> simp

theorem fetchedBytes_of_ne_jsr (h : i.mnemonic ≠ .jsr) : fetchedBytes i = i.mode.format.length := if_neg h

/-- With the discarded accesses performed, the fetch and the meaning of an instruction make one access a
cycle (R72, R362). -/
theorem exists_touches_of_exec (h : s.performsDummies = true) (hrun : exec i s = .next t) :
    ∃ list, t.touches = s.touches ++ list ∧ list.length + fetchedBytes i = cycles i s := by
  have hone (e : Touch) : (s.discarded e).length = 1 := length_discarded h e
  cases shaped i with
  | read o hbody hmode hexec hcycles =>
    rw [hexec] at hrun
    refine ⟨_, readInstr_touches hbody hrun, ?_⟩
    rw [hcycles, fetchedBytes_of_ne_jsr hbody.ne_jsr, hmode, ← o.length_eq, length_operandTouches h]
  | store mode hreg hmode hexec hcycles =>
    refine ⟨_, Touches.eq_of_exec (hexec s ▸ storeInstr_touches mode _ s) hrun, ?_⟩
    rw [hcycles, fetchedBytes_of_ne_jsr hreg.ne_jsr, hmode, ← mode.length_eq, ← length_modeTouches_write h mode]
    simp
  | modify mode hop hmode hexec hcycles =>
    refine ⟨_, Touches.eq_of_exec (hexec s ▸ modifyInstr_touches mode _ s) hrun, ?_⟩
    rw [hcycles, fetchedBytes_of_ne_jsr hop.ne_jsr, hmode, ← mode.length_eq, ← length_modeTouches_write h mode]
    simp [hone]
    omega
  | accumulator hop hmode hexec hcycles =>
    refine ⟨_, Touches.eq_of_exec (hexec s ▸ accumulatorInstr_touches _ s) hrun, ?_⟩
    rw [hcycles, fetchedBytes_of_ne_jsr hop.ne_jsr, hmode, hone]
    rfl
  | implied hbody hmode hexec hcycles =>
    refine ⟨_, Touches.eq_of_exec (hexec s ▸ impliedInstr_touches hbody s) hrun, ?_⟩
    rw [hcycles, fetchedBytes_of_ne_jsr hbody.ne_jsr, hmode, hone]
    rfl
  | branch oper hcond hmode hexec hcycles =>
    refine ⟨_, Touches.eq_of_exec (hexec s ▸ branchInstr_touches _ oper s) hrun, ?_⟩
    rw [hcycles, fetchedBytes_of_ne_jsr hcond.ne_jsr, hmode, length_branchTouches h, Nat.add_comm]
    rfl
  | jmpAbs w hi => subst hi; exact ⟨_, (touches_jmpAbs w s).eq_of_exec hrun, rfl⟩
  | jmpInd w hi => subst hi; exact ⟨_, (touches_jmpInd w s).eq_of_exec hrun, rfl⟩
  | jsr w hi =>
    subst hi
    exact ⟨_, (touches_jsr w s).eq_of_exec hrun, by simp only [List.length_append, hone]; rfl⟩
  | rts hi =>
    subst hi
    obtain ⟨t', hrun', ht⟩ := touches_rts s
    obtain rfl : t = t' := by simpa [hrun] using hrun'
    exact ⟨_, ht, by simp only [List.length_append, hone]; rfl⟩
  | rti hi => subst hi; exact ⟨_, (touches_rti s).eq_of_exec hrun, by simp only [List.length_append, hone]; rfl⟩
  | pha hi => subst hi; exact ⟨_, (touches_pha s).eq_of_exec hrun, by simp only [List.length_append, hone]; rfl⟩
  | php hi => subst hi; exact ⟨_, (touches_php s).eq_of_exec hrun, by simp only [List.length_append, hone]; rfl⟩
  | pla hi => subst hi; exact ⟨_, (touches_pla s).eq_of_exec hrun, by simp only [List.length_append, hone]; rfl⟩
  | plp hi => subst hi; exact ⟨_, (touches_plp s).eq_of_exec hrun, by simp only [List.length_append, hone]; rfl⟩
  | brk hi => subst hi; exact ⟨_, (touches_brk s).eq_of_exec hrun, by simp only [List.length_append, hone]; rfl⟩

/-- The boundary and the history change nothing that the cycles depend on (R362, R364). -/
theorem cycles_sample (i : Instr) (s : State) (history : List BusEvent) :
    cycles i { s.sample with bus := history } = cycles i s := by
  rw [s.sample_eq]
  cases shaped i with
  | read o _ _ _ hcycles =>
    rw [hcycles, hcycles]
    cases o with
    | imm => rfl
    | mem mode => cases mode <;> rfl
  | store _ _ _ _ hcycles | modify _ _ _ _ hcycles | accumulator _ _ _ hcycles | implied _ _ _ hcycles => rw [hcycles, hcycles]
  | branch _ _ _ _ hcycles => rw [hcycles, hcycles]; rfl
  | jmpAbs w h | jmpInd w h | jsr w h => subst h; rfl
  | rts h | rti h | pha h | php h | pla h | plp h | brk h => subst h; rfl

theorem State.length_touches (s : State) : s.touches.length = s.bus.length := List.length_map _

theorem length_bus_of_exec (hrun : exec i u = .next t) (h : u.performsDummies = true)
    (hfetched : u.bus.length = fetchedBytes i) : t.bus.length = cycles i u := by
  obtain ⟨list, ht, hlength⟩ := exists_touches_of_exec h hrun
  rw [← t.length_touches, ht, List.length_append, u.length_touches, hfetched, ← hlength, Nat.add_comm]

/-- The two discarded fetches, the three pushes and the vector (R362). -/
theorem length_bus_entry (h : s.performsDummies = true) (hbus : s.bus = []) (vec : Word) :
    (((s.dummyRead s.pc).dummyRead s.pc).enterInterrupt s.pc false vec).bus.length = entryCycles := by
  have htouches : s.touches = [] := by rw [State.touches, hbus]; rfl
  rw [← State.length_touches, s.entry_touches vec, htouches]
  simp [length_discarded h, entryCycles]

theorem length_bus_takeNmi (h : s.performsDummies = true) (hbus : s.bus = []) :
    s.takeNmi.bus.length = entryCycles := by
  rw [← State.length_touches, s.takeNmi_touches, State.length_touches, length_bus_entry h hbus]

theorem length_bus_takeIrq (h : s.performsDummies = true) (hbus : s.bus = []) :
    s.takeIrq.bus.length = entryCycles := by
  rw [State.takeIrq, length_bus_entry h hbus]

/-- The two discarded fetches, the three discarded reads of the stack and the vector (R362). -/
theorem length_bus_resetSequence (h : s.performsDummies = true) (hbus : s.bus = []) :
    s.resetSequence.bus.length = entryCycles := by
  have htouches : s.touches = [] := by rw [State.touches, hbus]; rfl
  rw [← State.length_touches, s.resetSequence_touches, htouches]
  simp [length_discarded h, entryCycles]

/-- Settles O24: an instruction's accesses are its fetch and those of its meaning; the other steps have
seven each. -/
theorem historyLengthIsCycleCount : Obligations.HistoryLengthIsCycleCount := by
  refine ⟨fun s t i bytes rest hdummies hfetches hdecode hwf hholds hstep => ?_,
    fun s t hdummies hfetches hline hstep => ?_⟩
  · rw [step_eq_exec hfetches hdecode hwf hholds] at hstep
    rw [length_bus_of_exec (rejectUnmapped_next hstep).1, cycles_sample]
    · exact (State.performsDummies_of_params_eq s.sample_params).trans hdummies
    · simp [State.fetchHistory]
  · have hsample := (State.performsDummies_of_params_eq s.sample_params).trans hdummies
    rcases step_cases hstep with ⟨hheld, -⟩ | ⟨-, -, rfl⟩ | ⟨-, -, -, rfl⟩ | ⟨-, -, -, -, rfl⟩ | ⟨-, hdue, hnmi, hirq, -⟩
    · simp [hline] at hheld
    · exact length_bus_resetSequence hsample s.sample_bus
    · exact length_bus_takeNmi hsample s.sample_bus
    · exact length_bus_takeIrq hsample s.sample_bus
    · simp [State.fetchesNext, hline, hdue, hnmi, hirq] at hfetches

end Sys2Proof.Machine
end


section
/-! Noninterference: what an instruction does whatever D is, and what a step does whatever the level of a
masked IRQ is. Both by one commutation: changing a field first or last is the same (R152, R313). -/

namespace Sys2Proof.Machine

variable {s t u : State} {i : Instr} {m : Mnemonic} {line dec : Bool → Bool}

/-! ## A state with its IRQ line and its D flag changed -/

/-- The state with the level of the IRQ line and the decimal flag replaced by functions of themselves. -/
def State.recast (line dec : Bool → Bool) (s : State) : State :=
  { s with irqLine := line s.irqLine, p := { s.p with d := dec s.p.d } }

/-- The outcome with its next state, if it has one, changed. -/
def mapNext (f : State → State) : Result → Result
  | .next t => .next (f t)
  | .fault r => .fault r
  | .refused r => .refused r

theorem State.pc_recast (s : State) : (s.recast line dec).pc = s.pc := rfl

theorem State.sp_recast (s : State) : (s.recast line dec).sp = s.sp := rfl

theorem State.peek_recast (s : State) (addr : Word) : (s.recast line dec).peek addr = s.peek addr := rfl

theorem State.noteRead_recast (s : State) (addr : Word) :
    (s.recast line dec).noteRead addr = (s.noteRead addr).recast line dec := rfl

theorem State.advance_recast (s : State) (n : Nat) : (s.recast line dec).advance n = (s.advance n).recast line dec := rfl

theorem State.dummyRead_recast (s : State) (addr : Word) :
    (s.recast line dec).dummyRead addr = (s.dummyRead addr).recast line dec :=
  (apply_ite (State.recast line dec) (s.performsDummies = true) (s.noteRead addr) s).symm

theorem State.dummyWrite_recast (s : State) (addr : Word) (v : Byte) :
    (s.recast line dec).dummyWrite addr v = (s.dummyWrite addr v).recast line dec :=
  (apply_ite (State.recast line dec) (s.performsDummies = true) (s.memWrite addr v) s).symm

theorem State.implied_recast (s : State) : (s.recast line dec).implied = s.implied.recast line dec :=
  (s.advance 1).dummyRead_recast _

theorem State.push_recast (s : State) (v : Byte) : (s.recast line dec).push v = (s.push v).recast line dec := rfl

theorem State.pull_recast (s : State) :
    (s.recast line dec).pull = (s.pull.1, s.pull.2.recast line dec) := rfl

theorem State.beforePull_recast (s : State) : (s.recast line dec).beforePull = s.beforePull.recast line dec := by
  rw [State.beforePull, s.implied_recast]
  exact s.implied.dummyRead_recast _

theorem State.jumpThrough_recast (s : State) (vec : Word) :
    (s.recast line dec).jumpThrough vec = (s.jumpThrough vec).recast line dec := rfl

theorem State.firstUnmapped_recast (s : State) (history : List BusEvent) :
    (s.recast line dec).firstUnmapped history = s.firstUnmapped history := by
  induction history with
  | nil => rfl
  | cons event rest ih => cases event <;> simp only [State.firstUnmapped, ih] <;> rfl

theorem State.stuckAt_recast (s : State) : (s.recast line dec).stuckAt = s.stuckAt := by
  unfold State.stuckAt
  rw [s.firstUnmapped_recast]
  rfl

theorem State.refuse_recast (s : State) (reason : Refusal) :
    (s.recast line dec).refuse reason = mapNext (State.recast line dec) (s.refuse reason) := by
  rw [State.refuse, s.stuckAt_recast, State.refuse]
  cases s.stuckAt <;> rfl

theorem State.finish_recast (s : State) :
    (s.recast line dec).finish = mapNext (State.recast line dec) s.finish := by
  rw [State.finish, s.stuckAt_recast, State.finish]
  cases s.stuckAt <;> rfl

/-! ## The addressing modes and the shapes -/

/-- What a mode delivers, with its state changed. -/
def Resolved.recast (line dec : Bool → Bool) (r : Resolved) : Resolved := { r with state := r.state.recast line dec }

theorem State.indexed_recast (s : State) (k : Access) (base : Word) (index : Byte) :
    (s.recast line dec).indexed k base index = (s.indexed k base index).recast line dec := by
  unfold State.indexed Resolved.recast
  simp only [s.dummyRead_recast, apply_ite (State.recast line dec)]

theorem Mode.resolve_recast (mode : Mode) (k : Access) (s : State) :
    mode.resolve k (s.recast line dec) = (mode.resolve k s).recast line dec := by
  cases mode with
  | zp | abs => rfl
  | zpx | zpy => simp only [Mode.resolve, s.dummyRead_recast]; rfl
  | abx | aby => exact s.indexed_recast ..
  | izx oper =>
    simp only [Mode.resolve, s.dummyRead_recast]
    rfl
  | izy oper => exact (s.zeroPagePointer oper).2.indexed_recast ..

theorem Operand.fetch_recast (o : Operand) (s : State) :
    o.fetch (s.recast line dec) = ((o.fetch s).1, (o.fetch s).2.recast line dec) := by
  cases o with
  | imm => rfl
  | mem mode => simp only [Operand.fetch, mode.resolve_recast]; rfl

theorem State.writeDecimal_recast (s : State) (r : Arith) :
    (s.recast line id).writeDecimal r = (s.writeDecimal r).recast line id := by
  have hparams : (s.recast line id).params = s.params := rfl
  unfold State.writeDecimal
  rw [hparams]
  cases s.params.decimalFlags <;> rfl

theorem State.decimalArith_recast (g : Byte → Byte → Bool → Arith) (v : Byte) (s : State) :
    (s.recast line id).decimalArith g v = mapNext (State.recast line id) (s.decimalArith g v) := by
  have hparams : (s.recast line id).params = s.params := rfl
  have ha : (s.recast line id).a = s.a := rfl
  have hc : (s.recast line id).p.c = s.p.c := rfl
  simp only [State.decimalArith, hparams, ha, hc, s.writeDecimal_recast, s.refuse_recast]
  cases validBcd s.a && validBcd v
  case true => rfl
  case false => cases s.params.decimalInvalidBcd <;> rfl

/-- ADC and SBC choose their form by D, and no other read instruction looks at it (R152). -/
theorem ReadBody.recast {body : Byte → State → Result} (hbody : ReadBody m body) (h : dec = id ∨ m ∉ [.adc, .sbc])
    (v : Byte) (s : State) : body v (s.recast line dec) = mapNext (State.recast line dec) (body v s) := by
  cases hbody
  case adc =>
    obtain rfl : dec = id := by simpa using h
    rw [State.adc, s.decimalArith_recast, State.adc, apply_ite (mapNext (State.recast line id))]
    rfl
  case sbc =>
    obtain rfl : dec = id := by simpa using h
    rw [State.sbc, s.decimalArith_recast, State.sbc, apply_ite (mapNext (State.recast line id))]
    rfl
  all_goals rfl

/-- The flags with D replaced by a function of itself. -/
def Flags.recast (dec : Bool → Bool) (p : Flags) : Flags := { p with d := dec p.d }

theorem ShiftOp.recast {op : Byte → Flags → Byte × Flags} (hop : ShiftOp m op) (v : Byte) (p : Flags) :
    op v (p.recast dec) = ((op v p).1, (op v p).2.recast dec) := by
  cases hop <;> rfl

theorem ModifyOp.recast {op : Byte → Flags → Byte × Flags} (hop : ModifyOp m op) (v : Byte) (p : Flags) :
    op v (p.recast dec) = ((op v p).1, (op v p).2.recast dec) := by
  cases hop with
  | shift hshift => exact hshift.recast v p
  | inc | dec => rfl

theorem storeInstr_recast (mode : Mode) (v : Byte) (s : State) :
    storeInstr mode v (s.recast line dec) = mapNext (State.recast line dec) (storeInstr mode v s) := by
  simp only [storeInstr, s.advance_recast, mode.resolve_recast]
  rfl

theorem modifyInstr_recast {op : Byte → Flags → Byte × Flags} (hop : ModifyOp m op) (mode : Mode) (s : State) :
    modifyInstr mode op (s.recast line dec) = mapNext (State.recast line dec) (modifyInstr mode op s) := by
  have hea (r : Resolved) : (r.recast line dec).ea = r.ea := rfl
  have hstate (r : Resolved) : (r.recast line dec).state = r.state.recast line dec := rfl
  have hflags (t : State) : (t.recast line dec).p = t.p.recast dec := rfl
  simp only [modifyInstr, s.advance_recast, mode.resolve_recast, hea, hstate, State.peek_recast, State.noteRead_recast,
    State.dummyWrite_recast, hflags, hop.recast]
  rfl

theorem accumulatorInstr_recast {op : Byte → Flags → Byte × Flags} (hop : ShiftOp m op) (s : State) :
    accumulatorInstr op (s.recast line dec) = mapNext (State.recast line dec) (accumulatorInstr op s) := by
  have hflags (t : State) : (t.recast line dec).p = t.p.recast dec := rfl
  simp only [accumulatorInstr, s.implied_recast, hflags, hop.recast]
  rfl

theorem impliedInstr_recast {body : State → State} (hbody : ImpliedBody m body) (h : dec = id ∨ m ∉ [.sed, .cld])
    (s : State) : impliedInstr body (s.recast line dec) = mapNext (State.recast line dec) (impliedInstr body s) := by
  rw [impliedInstr, s.implied_recast]
  cases hbody
  case sed | cld =>
    obtain rfl : dec = id := by simpa using h
    rfl
  all_goals rfl

theorem branchInstr_recast (cond : Bool) (oper : Byte) (s : State) :
    branchInstr cond oper (s.recast line dec) = mapNext (State.recast line dec) (branchInstr cond oper s) := by
  cases cond
  case false => rfl
  case true =>
    simp only [branchInstr, s.advance_recast, State.pc_recast, State.dummyRead_recast, ← apply_ite (State.recast line dec), if_true]
    rfl

theorem BranchCond.recast {cond : Flags → Bool} (hcond : BranchCond m cond) (p : Flags) :
    cond (p.recast dec) = cond p := by
  cases hcond <;> rfl

theorem StoreReg.recast {reg : State → Byte} (hreg : StoreReg m reg) (s : State) :
    reg (s.recast line dec) = reg s := by
  cases hreg <;> rfl

/-! ## The instructions -/

theorem State.enterInterrupt_recast (s : State) (ret : Word) (brk : Bool) (vec : Word) :
    (s.recast line id).enterInterrupt ret brk vec = (s.enterInterrupt ret brk vec).recast line id := by
  have hentered : (s.recast line id).entered ret brk = (s.entered ret brk).recast line id := rfl
  rw [State.enterInterrupt, hentered, State.jumpThrough_recast, State.enterInterrupt]

/-- Any instruction commutes with a change of the IRQ line, and one that neither adds, nor writes D, nor
pushes it commutes with a change of D too (R152). -/
theorem exec_recast (h : dec = id ∨ i.mnemonic ∉ [.adc, .sbc, .sed, .cld, .plp, .rti, .php, .brk]) (s : State) :
    exec i (s.recast line dec) = mapNext (State.recast line dec) (exec i s) := by
  cases shaped i with
  | read o hbody _ hexec =>
    have hadvance : (s.recast line dec).advance o.length = (s.advance o.length).recast line dec := rfl
    rw [hexec, hexec, readInstr, hadvance, o.fetch_recast]
    exact hbody.recast (h.imp_right (by simp_all)) _ _
  | store mode hreg _ hexec => rw [hexec, hexec, hreg.recast, storeInstr_recast]
  | modify mode hop _ hexec => rw [hexec, hexec, modifyInstr_recast hop]
  | accumulator hop _ hexec => rw [hexec, hexec, accumulatorInstr_recast hop]
  | implied hbody _ hexec => rw [hexec, hexec, impliedInstr_recast hbody (h.imp_right (by simp_all))]
  | branch oper hcond _ hexec =>
    have hflags : (s.recast line dec).p = s.p.recast dec := rfl
    rw [hexec, hexec, hflags, hcond.recast, branchInstr_recast]
  | jmpAbs w hi => subst hi; rfl
  | jmpInd w hi => subst hi; rfl
  | jsr w hi =>
    subst hi
    simp only [exec_jsr, s.advance_recast, State.dummyRead_recast, State.pc_recast, State.sp_recast, State.push_recast,
      State.noteRead_recast, State.peek_recast]
    rfl
  | rts hi =>
    subst hi
    simp only [exec_rts, s.beforePull_recast, State.pull_recast, State.dummyRead_recast]
    rfl
  | rti hi =>
    subst hi
    obtain rfl : dec = id := h.resolve_right (by decide)
    simp only [exec_rti, s.beforePull_recast, State.pull_recast]
    rfl
  | pha hi =>
    subst hi
    simp only [exec_pha, s.implied_recast, State.push_recast]
    rfl
  | php hi =>
    subst hi
    obtain rfl : dec = id := h.resolve_right (by decide)
    simp only [exec_php, s.implied_recast, State.push_recast]
    rfl
  | pla hi =>
    subst hi
    simp only [exec_pla, s.beforePull_recast, State.pull_recast]
    rfl
  | plp hi =>
    subst hi
    obtain rfl : dec = id := h.resolve_right (by decide)
    simp only [exec_plp, s.beforePull_recast, State.pull_recast]
    rfl
  | brk hi =>
    subst hi
    obtain rfl : dec = id := h.resolve_right (by decide)
    simp only [exec_brk, s.implied_recast, State.enterInterrupt_recast, State.pc_recast]
    rfl

theorem eq_of_mnemonic_writes_d (h : i.mnemonic ∈ [.sed, .cld, .plp, .rti]) :
    i = .sed ∨ i = .cld ∨ i = .plp ∨ i = .rti := by
  cases i <;> simp [Instr.mnemonic] at h ⊢

theorem eq_of_mnemonic_pushes_d (h : i.mnemonic ∈ [.php, .brk]) : i = .php ∨ i = .brk := by
  cases i <;> simp [Instr.mnemonic] at h ⊢

/-- An instruction that writes D makes nothing of the one it finds (R152). -/
theorem exec_recast_of_writes_d (h : i.mnemonic ∈ [.sed, .cld, .plp, .rti]) (s : State) :
    exec i (s.recast line dec) = mapNext (State.recast line id) (exec i s) := by
  have hflag (body : State → State) (hbody : ∀ t : State, body (t.recast line dec) = (body t).recast line id) :
      impliedInstr body (s.recast line dec) = mapNext (State.recast line id) (impliedInstr body s) := by
    rw [impliedInstr, s.implied_recast, hbody]
    rfl
  rcases eq_of_mnemonic_writes_d h with rfl | rfl | rfl | rfl
  · exact hflag (fun t => { t with p := { t.p with d := true } }) fun _ => rfl
  · exact hflag (fun t => { t with p := { t.p with d := false } }) fun _ => rfl
  · simp only [exec_plp, s.beforePull_recast, State.pull_recast]
    rfl
  · simp only [exec_rti, s.beforePull_recast, State.pull_recast]
    rfl

/-! ## The instructions that push D -/

/-- `u` is `t` but for D and for bit 3 of the byte at one address, the values in the history apart. -/
structure DiffersInD (d : Bool) (addr : Word) (t u : State) : Prop where
  touches_eq : u.touches = t.touches
  fields_eq : u = { t with p := { t.p with d := d }, mem := u.mem, bus := u.bus }
  elsewhere : ∀ there, there ≠ addr → u.byteAt there = t.byteAt there
  pushed : (u.byteAt addr ^^^ t.byteAt addr) &&& 0xF7#8 = 0x00#8

theorem Flags.pack_xor_pack (p : Flags) (d brk : Bool) :
    (Flags.pack { p with d := d } brk ^^^ p.pack brk) &&& 0xF7#8 = 0x00#8 := by
  obtain ⟨n, v, d', i, z, c⟩ := p
  revert n v d' i z c d brk
  decide

theorem State.push_differsInD (s : State) (d brk : Bool) : DiffersInD d (stackAddr s.sp) (s.push (s.p.pack brk))
    ((s.recast id fun _ => d).push ((s.recast id fun _ => d).p.pack brk)) where
  touches_eq := by simp [State.touches, State.push, State.memWrite, State.recast, BusEvent.touch]
  fields_eq := rfl
  elsewhere there h := by
    rw [State.byteAt_push, State.byteAt_push, if_neg (fun hboth => h hboth.1), if_neg (fun hboth => h hboth.1)]
    rfl
  pushed := by
    have hsp : (s.recast id fun _ => d).sp = s.sp := rfl
    have hkind (there : Word) : (s.recast id fun _ => d).kindAt there = s.kindAt there := rfl
    have hbyte : (s.recast id fun _ => d).byteAt (stackAddr s.sp) = s.byteAt (stackAddr s.sp) := rfl
    rw [State.byteAt_push, State.byteAt_push, hsp, hkind]
    by_cases hram : s.kindAt (stackAddr s.sp) = .ram
    · rw [if_pos ⟨rfl, hram⟩, if_pos ⟨rfl, hram⟩]
      exact s.p.pack_xor_pack d brk
    · rw [if_neg (fun hboth => hram hboth.2), if_neg (fun hboth => hram hboth.2), hbyte, BitVec.xor_self]
      rfl

variable {d : Bool} {addr : Word}

theorem DiffersInD.peek_eq (h : DiffersInD d addr t u) {there : Word} (hne : there ≠ addr) :
    u.peek there = t.peek there := by
  have hkind : u.kindAt there = t.kindAt there := State.kindAt_of_params_eq (by rw [h.fields_eq]) there
  have hdraws : u.draws = t.draws := by rw [h.fields_eq]
  rw [State.peek, hkind, h.elsewhere there hne, hdraws, State.peek]

/-- What leaves memory alone, and does with the two states alike, keeps the difference between them. -/
theorem DiffersInD.map (h : DiffersInD d addr t u) (f : State → State) (hmem : ∀ s, (f s).mem = s.mem)
    (htouches : (f u).touches = (f t).touches)
    (hfields : ∀ mem bus, let v := f { t with p := { t.p with d := d }, mem := mem, bus := bus }
      v = { f t with p := { (f t).p with d := d }, mem := v.mem, bus := v.bus }) :
    DiffersInD d addr (f t) (f u) where
  touches_eq := htouches
  fields_eq := by
    have hu := h.fields_eq
    generalize u.mem = mem, u.bus = bus at hu
    subst hu
    exact hfields mem bus
  elsewhere there hne := by
    rw [State.byteAt_of_mem_eq (hmem u), State.byteAt_of_mem_eq (hmem t), h.elsewhere there hne]
  pushed := by rw [State.byteAt_of_mem_eq (hmem u), State.byteAt_of_mem_eq (hmem t), h.pushed]

theorem DiffersInD.noteRead (h : DiffersInD d addr t u) (there : Word) :
    DiffersInD d addr (t.noteRead there) (u.noteRead there) :=
  h.map (fun s => s.noteRead there) (fun _ => rfl) (by simp only [State.noteRead_touches, h.touches_eq]) fun _ _ => rfl

theorem DiffersInD.setPc (h : DiffersInD d addr t u) (w : Word) :
    DiffersInD d addr { t with pc := w } { u with pc := w } :=
  h.map (fun s => { s with pc := w }) (fun _ => rfl) h.touches_eq fun _ _ => rfl

theorem DiffersInD.setI (h : DiffersInD d addr t u) :
    DiffersInD d addr { t with p := { t.p with i := true } } { u with p := { u.p with i := true } } :=
  h.map (fun s => { s with p := { s.p with i := true } }) (fun _ => rfl) h.touches_eq fun _ _ => rfl

theorem DiffersInD.jumpThrough (h : DiffersInD d addr t u) {vec : Word} (hlo : vec ≠ addr) (hhi : vec + 1 ≠ addr) :
    DiffersInD d addr (t.jumpThrough vec) (u.jumpThrough vec) := by
  have hread := ((h.noteRead vec).noteRead (vec + 1)).setPc (hiLo ((u.noteRead vec).peek (vec + 1)) (u.peek vec))
  rw [(h.noteRead vec).peek_eq hhi, h.peek_eq hlo] at hread
  rw [State.jumpThrough, State.jumpThrough]
  simp only [State.memRead, (h.noteRead vec).peek_eq hhi, h.peek_eq hlo]
  exact hread

/-- The vector is read after the pushes, and not where they go (R318). -/
theorem State.enterInterrupt_differsInD (s : State) (d : Bool) (ret : Word) (brk : Bool) {vec : Word}
    (hlo : hiByte vec ≠ stackPage) (hhi : hiByte (vec + 1) ≠ stackPage) :
    DiffersInD d (stackAddr (s.sp - 1 - 1)) (s.enterInterrupt ret brk vec)
      ((s.recast id fun _ => d).enterInterrupt ret brk vec) := by
  let t := (s.push (hiByte ret)).push (loByte ret)
  have hentered : DiffersInD d (stackAddr (s.sp - 1 - 1)) (s.entered ret brk) ((s.recast id fun _ => d).entered ret brk) :=
    (t.push_differsInD d brk).setI
  have hpage {a : Word} (h : hiByte a ≠ stackPage) : a ≠ stackAddr (s.sp - 1 - 1) :=
    fun ha => h (by rw [ha, stackAddr, hiByte_hiLo])
  exact hentered.jumpThrough (hpage hlo) (hpage hhi)

theorem exec_differsInD (h : i.mnemonic ∈ [.php, .brk]) (d : Bool) (s : State) : ∃ t u, exec i s = .next t ∧
    exec i (s.recast id fun _ => d) = .next u ∧ DiffersInD d (stackAddr (t.sp + 1)) t u := by
  rcases eq_of_mnemonic_pushes_d h with rfl | rfl
  · have hsp : (s.implied.push (s.p.pack true)).sp + 1 = s.implied.sp := sub_add_cancel _ _
    have hflags : (s.implied.recast id fun _ => d).p = (s.recast id fun _ => d).p := by
      simp only [State.recast, s.implied_p]
    have hpushed := s.implied.push_differsInD d true
    rw [hflags, s.implied_p, ← s.implied_recast] at hpushed
    exact ⟨_, _, exec_php s, exec_php _, hsp.symm ▸ hpushed⟩
  · have hsp : (s.implied.enterInterrupt (s.pc + 2) true irqVector).sp + 1 = s.implied.sp - 1 - 1 := by
      rw [s.implied.enterInterrupt_spec]
      exact sub_add_cancel _ _
    have hentered := s.implied.enterInterrupt_differsInD d (s.pc + 2) true (vec := irqVector) (by decide) (by decide)
    rw [← s.implied_recast] at hentered
    exact ⟨_, _, exec_brk s, exec_brk _, hsp.symm ▸ hentered⟩

/-- Settles O32: D is changed before or after alike, is overwritten, or is pushed. -/
theorem decimalModeReachesAdcAndSbcOnly : Obligations.DecimalModeReachesAdcAndSbcOnly := by
  intro i s t d harith hrun
  refine ⟨fun h => ?_, fun h => ?_, fun h => ?_⟩
  · have hrecast := exec_recast (line := id) (dec := fun _ => d) (i := i) (.inr (by simp_all)) s
    rw [hrun] at hrecast
    exact hrecast
  · have hrecast := exec_recast_of_writes_d (line := id) (dec := fun _ => d) h s
    rw [hrun] at hrecast
    exact hrecast
  · obtain ⟨t', u, hrun', hother, hdiffers⟩ := exec_differsInD h d s
    obtain rfl : t = t' := by simpa [hrun] using hrun'
    exact ⟨u, hother, hdiffers.touches_eq, hdiffers.fields_eq, hdiffers.elsewhere, hdiffers.pushed⟩

/-! ## The level of a masked IRQ -/

theorem readBytes_recast (count : Nat) (addr : Word) (s : State) :
    readBytes count addr (s.recast line dec) =
      ((readBytes count addr s).1, (readBytes count addr s).2.recast line dec) := by
  induction count generalizing addr s with
  | zero => rfl
  | succ count ih => simp only [readBytes, State.noteRead_recast, ih, State.peek_recast]

/-- What is found at PC, with the state after the fetch changed. -/
def Fetched.recast (line dec : Bool → Bool) : Fetched → Fetched
  | .instr i t => .instr i (t.recast line dec)
  | .undefined op t => .undefined op (t.recast line dec)

theorem State.fetch_recast (s : State) : (s.recast line dec).fetch = s.fetch.recast line dec := by
  have hparams : (s.recast line dec).params = s.params := rfl
  simp only [State.fetch, s.pc_recast, s.peek_recast, readBytes_recast, s.noteRead_recast, hparams]
  cases rowOf (s.peek s.pc) with
  | none => rfl
  | some row =>
    dsimp only
    cases decode (readBytes (row.build.operandBytes + 1) s.pc s).1 with
    | error => rfl
    | ok found =>
      dsimp only
      rw [apply_ite (Fetched.recast line dec)]
      rfl

theorem State.execute_recast (s : State) :
    (s.recast line id).execute = mapNext (State.recast line id) s.execute := by
  rw [State.execute, s.fetch_recast, State.execute]
  cases s.fetch with
  | instr i t => exact exec_recast (.inl rfl) t
  | undefined op t => exact t.refuse_recast _

theorem State.resetSequence_recast (s : State) :
    (s.recast line id).resetSequence = s.resetSequence.recast line id := by
  simp only [State.resetSequence, State.dummyRead_recast, State.pc_recast, State.sp_recast]
  rfl

theorem State.takeNmi_recast (s : State) : (s.recast line id).takeNmi = s.takeNmi.recast line id := by
  simp only [State.takeNmi, State.dummyRead_recast, State.pc_recast, State.enterInterrupt_recast]
  rfl

/-- With I = 1 no IRQ is taken, at either level of the line (R313, R317). -/
theorem State.atBoundary_recast (h : s.p.i = true) (choice : Bool) :
    (s.recast line id).atBoundary choice = mapNext (State.recast line id) (s.atBoundary choice) := by
  have hmasked (level : Bool) : (level && !s.p.i && choice) = false := by simp [h]
  have htaken : (s.recast line id).irqTaken choice = false := hmasked _
  have htaken' : s.irqTaken choice = false := hmasked _
  have hline : (s.recast line id).resetLine = s.resetLine := rfl
  have hdue : (s.recast line id).resetPending = s.resetPending := rfl
  have hnmi : (s.recast line id).nmiPending = s.nmiPending := rfl
  unfold State.atBoundary
  rw [hline, hdue, hnmi, htaken, htaken', if_neg Bool.false_ne_true, if_neg Bool.false_ne_true, s.resetSequence_recast, s.takeNmi_recast, s.execute_recast]
  split_ifs <;> rfl

theorem applyPins_recast {events : List PinEvent} (h : ∀ e ∈ events, ∀ l, e ≠ .irq l) (s : State) :
    events.foldl State.applyPin (s.recast line dec) = (events.foldl State.applyPin s).recast line dec := by
  induction events generalizing s with
  | nil => rfl
  | cons e rest ih =>
    have hpin : (s.recast line dec).applyPin e = (s.applyPin e).recast line dec := by
      cases e with
      | irq l => exact absurd rfl (h _ List.mem_cons_self l)
      | nmi | reset => rfl
    rw [List.foldl_cons, hpin, ih (fun e he => h e (List.mem_cons_of_mem _ he)), List.foldl_cons]

theorem State.sample_recast (h : ∀ e ∈ s.boundary.events, ∀ l, e ≠ .irq l) :
    (s.recast line dec).sample = s.sample.recast line dec :=
  applyPins_recast h { s with schedule := s.schedule.tail, bus := [] }

theorem rejectUnmapped_recast (r : Result) :
    rejectUnmapped (mapNext (State.recast line dec) r) = mapNext (State.recast line dec) (rejectUnmapped r) := by
  cases r with
  | next t => exact t.finish_recast
  | fault | refused => rfl

theorem step_recast (hi : s.p.i = true) (h : ∀ e ∈ s.boundary.events, ∀ l, e ≠ .irq l) :
    step (s.recast line id) = mapNext (State.recast line id) (step s) := by
  have hboundary : (s.recast line id).boundary = s.boundary := rfl
  rw [step, State.sample_recast h, hboundary, State.atBoundary_recast (by rwa [s.sample_p]), rejectUnmapped_recast, step]

/-- Settles O54: the line is changed before or after the step alike. -/
theorem maskedIrqHasNoPart : Obligations.MaskedIrqHasNoPart := by
  intro s t level hi hevents hstep
  have hrecast := step_recast (line := fun _ => level) hi hevents
  rw [hstep] at hrecast
  exact hrecast

end Sys2Proof.Machine
end
